-- ==== Sys2Proof/Word.lean ====
section
/-! DEFINITION. The word types of the CORE (00_scope.md R11: BYTE_W, REG_W, RSP_W). -/

namespace Sys2Proof

/-- A bus byte, a buffer cell, a status code (`BYTE_W` = 8). -/
abbrev Byte := BitVec 8

/-- A value of the register boundary (`REG_W` = 32). -/
abbrev RegWord := BitVec 32

/-- A response word (`RSP_W` = 16). -/
abbrev Resp := BitVec 16

/-- The container of a `LEN_W`-bit length, index or cursor: 16 bits, the largest `LEN_W` of R11.
That the value fits the instance's `LEN_W` is part of `Machine.State.Inv`. -/
abbrev Len := BitVec 16

/-- A bus address of 7 bits (`ADDR_W`). -/
abbrev Addr := BitVec 7

end Sys2Proof
end

