-- ==== Sys2Proof/Config.lean ====
section
/-! DEFINITION. The parameters and constants of 00_scope.md R11, and the values the spec leaves free. -/

namespace Sys2Proof

/-- The parameter `LEN_W` (R11, decision D5: OPEN, 1 to 16): the width of a length, an index and the cursor. -/
structure LenW where
  val : Nat
  pos : 1 ≤ val
  max : val ≤ 16
deriving DecidableEq, Repr

/-- The default of R11. DESIGN CHOICE (log 1): the instance `State.reset` shows has this width. Every other width is
covered because each statement is about every `State`. -/
def LenW.default8 : LenW := ⟨8, by decide, by decide⟩

/-- The number of cells of RXBUF and of values of a `LEN_W`-bit register: `2^LEN_W` (R31). -/
def LenW.cells (L : LenW) : Nat := 2 ^ L.val

/-- The four registers of the REG space (20_memory.md R61). -/
inductive RegName where
  | conset | stat | dat | conclr
deriving DecidableEq, Repr

namespace Config

/-- `SUCCESS` (R11): the status a completed transaction returns. -/
def success : Resp := 0x0000#16
/-- `SENTINEL` (R11): what `READ` returns at or beyond the cursor. -/
def sentinel : Resp := 0x0000#16
/-- `STAT_MASK` (R11, decision D9). -/
def statMask : Byte := 0xF8#8

/-! The thirteen status codes (R11, R99). -/
def stBusError : Byte := 0x00#8
def stStart : Byte := 0x08#8
def stRstart : Byte := 0x10#8
def stSlawAck : Byte := 0x18#8
def stSlawNack : Byte := 0x20#8
def stDatwAck : Byte := 0x28#8
def stDatwNack : Byte := 0x30#8
def stArbLost : Byte := 0x38#8
def stSlarAck : Byte := 0x40#8
def stSlarNack : Byte := 0x48#8
def stDatrAck : Byte := 0x50#8
def stDatrNack : Byte := 0x58#8
def stNoInfo : Byte := 0xF8#8

/-! The control masks (R97): one bit each. -/
/-- `AA`, ACK-enable, bit 2. -/
def maskAA : Byte := 0x04#8
/-- `SI`, transfer-complete, bit 3. -/
def maskSI : Byte := 0x08#8
/-- `STO`, STOP, bit 4. -/
def maskSTO : Byte := 0x10#8
/-- `STA`, START, bit 5. -/
def maskSTA : Byte := 0x20#8

/-! Free values: constants without a body, so no proof can see what they are. -/

/-- The answer of the environment to the register read that is the CORE's `tick`-th register operation, where no
answer is queued (20_memory.md R74: "a free input of the step"). Log 2. -/
opaque envRead : Nat → RegWord

/-- The byte on the `tx_byte` port at the `tick`-th register operation, where the host placed no byte at the index the
CORE shows (R78, R313 give no value there). Log 4. -/
opaque txByteFree : Nat → Byte

/-- The content of a cell of RXBUF that no store has written (10_state.md R31, 70_reset_and_hazards.md R290:
"unspecified"). Log 5. -/
opaque rxCell : Nat → Byte

/-- `REG_OFFSET` (R11, 20_memory.md R71): the bus addresses of the four registers, OPEN, no default. No rule of the CORE
reads it. Log 13. -/
opaque regOffset : RegName → Nat

end Config
end Sys2Proof
end

