-- ==== Sys2Proof/Syntax.lean ====
section
/-! DEFINITION. The closed sets of names of the spec and the instruction type: one constructor per row of
spec/opcode_table.json. -/

namespace Sys2Proof

/-- The Transaction Mode (10_state.md R21): 0 Transmit, 1 Receive. -/
inductive Mode where
  | transmit | receive
deriving DecidableEq, Repr

/-- `prim_phase` (30_encoding.md R95): 0 the first, 1 the second operation of a compound primitive. -/
inductive Phase where
  | first | second
deriving DecidableEq, Repr

/-- The sixteen values of `prim_sel` (30_encoding.md R95). -/
inductive PrimSel where
  | noOp | startSet | startClr | stopSet | stopClr | ackSet | ackClr | addrLoad
  | dataWrite | dataRead | siWait | siClr | statRead | reserved13 | reserved14 | reserved15
deriving DecidableEq, Repr

/-- The seventeen sequencer states (45_sequencer.md R221). Codes 17 to 31 are unused and unreachable (R102), so the
type does not have them. -/
inductive SeqState where
  | idle | start | decStat | decSi | dispatch | addrDat | addrAa | staClr | txdDat | txdAa
  | rxdRead | ackSet | ackClr | siClr | stopSto | stopSi | ret
deriving DecidableEq, Repr

/-- The classes of a status code (30_encoding.md R100). -/
inductive StatusClass where
  | start | rstart | slawAck | slawNack | datwAck | datwNack | arbLost | busError
  | slarAck | slarNack | datrAck | datrNack | noInfo | unclassified
deriving DecidableEq, Repr

/-- The instructions: one constructor per row of the opcode table. Operands: `addr` and `n` of the commands that use
them (R91), `phase` of the three compound primitives (R95; log 14). -/
inductive Instr where
  -- commands (R91)
  | init
  | transmit (addr : Addr) (n : Len)
  | request (addr : Addr) (n : Len)
  | available
  | read (n : Len)
  | reserved5
  | reserved6
  | reserved7
  -- bus primitives (R95)
  | pNone
  | pStartSet
  | pStartClr
  | pStopSet (phase : Phase)
  | pStopClr
  | pAckSet
  | pAckClr
  | pAddrLoad (phase : Phase)
  | pDataWrite (phase : Phase)
  | pDataRead
  | pSiWait
  | pSiClr
  | pStatRead
  | pReserved13
  | pReserved14
  | pReserved15
  -- transmit dispatch rows (R151 to R160)
  | txStart
  | txRstart
  | txSlawAck
  | txSlawNack
  | txDatwAck
  | txDatwNack
  | txArbLost
  | txBusError
  -- receive dispatch rows (R171 to R179)
  | rxStart
  | rxRstart
  | rxArbLost
  | rxSlarAck
  | rxSlarNack
  | rxDatrAck
  | rxDatrNack
  | rxBusError
  -- transmit dispatch rows (R151 to R160)
  | txDefaultSlarAck
  | txDefaultSlarNack
  | txDefaultDatrAck
  | txDefaultDatrNack
  -- receive dispatch rows (R171 to R179)
  | rxDefaultSlawAck
  | rxDefaultSlawNack
  | rxDefaultDatwAck
  | rxDefaultDatwNack
  -- statuses of either mode (R236, R141)
  | unclassified60
  | unclassified68
  | unclassified70
  | unclassified78
  | unclassified80
  | unclassified88
  | unclassified90
  | unclassified98
  | unclassifiedA0
  | unclassifiedA8
  | unclassifiedB0
  | unclassifiedB8
  | unclassifiedC0
  | unclassifiedC8
  | unclassifiedD0
  | unclassifiedD8
  | unclassifiedE0
  | unclassifiedE8
  | unclassifiedF0
  | noInfo
  -- sequencer states (R102)
  | sIdle
  | sStart
  | sDecStat
  | sDecSi
  | sDispatch
  | sAddrDat
  | sAddrAa
  | sStaClr
  | sTxdDat
  | sTxdAa
  | sRxdRead
  | sAckSet
  | sAckClr
  | sSiClr
  | sStopSto
  | sStopSi
  | sReturn
deriving DecidableEq, Repr

end Sys2Proof
end

