-- ==== Sys2Proof/WellFormed.lean ====
section
/-! DEFINITION. Which instruction terms are instructions of an instance whose width is `L`. -/

namespace Sys2Proof

/-- A value fits a `LEN_W`-bit register (30_encoding.md R92: "`n` is an unsigned `LEN_W`-bit integer"). -/
def LenW.fits (L : LenW) (n : Len) : Bool := decide (n.toNat < L.cells)

/-- The one check: the operand `n` of a command fits `LEN_W` bits (R90, R92). Every other operand's type is exact. -/
def Instr.wellFormed (L : LenW) : Instr → Bool
  | .transmit _ n => L.fits n
  | .request _ n => L.fits n
  | .read n => L.fits n
  | .init | .available | .reserved5 | .reserved6 | .reserved7 | .pNone | .pStartSet | .pStartClr
  | .pStopSet _ | .pStopClr | .pAckSet | .pAckClr | .pAddrLoad _ | .pDataWrite _ | .pDataRead | .pSiWait
  | .pSiClr | .pStatRead | .pReserved13 | .pReserved14 | .pReserved15 | .txStart | .txRstart | .txSlawAck
  | .txSlawNack | .txDatwAck | .txDatwNack | .txArbLost | .txBusError | .rxStart | .rxRstart | .rxArbLost
  | .rxSlarAck | .rxSlarNack | .rxDatrAck | .rxDatrNack | .rxBusError | .txDefaultSlarAck
  | .txDefaultSlarNack | .txDefaultDatrAck | .txDefaultDatrNack | .rxDefaultSlawAck | .rxDefaultSlawNack
  | .rxDefaultDatwAck | .rxDefaultDatwNack | .unclassified60 | .unclassified68 | .unclassified70
  | .unclassified78 | .unclassified80 | .unclassified88 | .unclassified90 | .unclassified98 | .unclassifiedA0
  | .unclassifiedA8 | .unclassifiedB0 | .unclassifiedB8 | .unclassifiedC0 | .unclassifiedC8 | .unclassifiedD0
  | .unclassifiedD8 | .unclassifiedE0 | .unclassifiedE8 | .unclassifiedF0 | .noInfo | .sIdle | .sStart
  | .sDecStat | .sDecSi | .sDispatch | .sAddrDat | .sAddrAa | .sStaClr | .sTxdDat | .sTxdAa | .sRxdRead
  | .sAckSet | .sAckClr | .sSiClr | .sStopSto | .sStopSi | .sReturn => true

end Sys2Proof
end

