-- ==== Sys2Proof/Decode.lean ====
section
/-! DEFINITION. Decoding and encoding: 30_encoding.md. A word of this hardware is a command on the command port (R90), a
select of the multiplexer with its phase (R95), a status byte with the mode that selects the table (R98), or a sequencer
state code (R102). No byte order exists (20_memory.md R66), so a word is its bits. -/

namespace Sys2Proof

/-! ## Codes of the closed sets -/

/-- The mode bit (10_state.md R21): 0 Transmit, 1 Receive. -/
def Mode.bit : Mode → BitVec 1
  | .transmit => 0#1
  | .receive => 1#1

/-- `reg_sel` (30_encoding.md R96). -/
def RegName.sel : RegName → BitVec 2
  | .conset => 0#2
  | .stat => 1#2
  | .dat => 2#2
  | .conclr => 3#2

/-- The state codes of R102. -/
def SeqState.code : SeqState → BitVec 5
  | .idle => 0#5
  | .start => 1#5
  | .decStat => 2#5
  | .decSi => 3#5
  | .dispatch => 4#5
  | .addrDat => 5#5
  | .addrAa => 6#5
  | .staClr => 7#5
  | .txdDat => 8#5
  | .txdAa => 9#5
  | .rxdRead => 10#5
  | .ackSet => 11#5
  | .ackClr => 12#5
  | .siClr => 13#5
  | .stopSto => 14#5
  | .stopSi => 15#5
  | .ret => 16#5

/-- The row of the opcode table that a sequencer state is (R221). -/
def SeqState.row : SeqState → Instr
  | .idle => .sIdle
  | .start => .sStart
  | .decStat => .sDecStat
  | .decSi => .sDecSi
  | .dispatch => .sDispatch
  | .addrDat => .sAddrDat
  | .addrAa => .sAddrAa
  | .staClr => .sStaClr
  | .txdDat => .sTxdDat
  | .txdAa => .sTxdAa
  | .rxdRead => .sRxdRead
  | .ackSet => .sAckSet
  | .ackClr => .sAckClr
  | .siClr => .sSiClr
  | .stopSto => .sStopSto
  | .stopSi => .sStopSi
  | .ret => .sReturn

/-! ## The command word (R90) -/

namespace CmdWord

/-- `op`, bits `[2:0]`. -/
def op (w : BitVec 32) : BitVec 3 := w.extractLsb' 0 3

/-- `addr`, bits `[14:8]`. -/
def addr (w : BitVec 32) : Addr := w.extractLsb' 8 7

/-- `n`, bits `[15+LEN_W:16]`, zero-extended to the container. -/
def n (L : LenW) (w : BitVec 32) : Len := (w.extractLsb' 16 L.val).setWidth 16

/-- The bits of `w` that the port of an instance has: `[15+LEN_W:0]` (10_state.md R40). -/
def onPort (L : LenW) (w : BitVec 32) : BitVec 32 := (w.setWidth (16 + L.val)).setWidth 32

/-- A command word with reserved bits zero (R106). -/
def mk (op : BitVec 3) (addr : Addr) (n : Len) : BitVec 32 := n ++ 0#1 ++ addr ++ 0#5 ++ op

end CmdWord

/-- The command of a command word (R91). Reserved bits and operand fields the command does not use are ignored (R93). -/
def decodeCmd (L : LenW) (w : BitVec 32) : Instr :=
  match (CmdWord.op w).toNat with
  | 0 => .init
  | 1 => .transmit (CmdWord.addr w) (CmdWord.n L w)
  | 2 => .request (CmdWord.addr w) (CmdWord.n L w)
  | 3 => .available
  | 4 => .read (CmdWord.n L w)
  | 5 => .reserved5
  | 6 => .reserved6
  | _ => .reserved7

/-! ## The status byte (R98 to R100) -/

/-- The decoder's masking (R98): reserved bits `[2:0]` cleared. -/
def maskStatus (b : Byte) : Byte := b &&& Config.statMask

/-- The classification function of R100, total on 8-bit values. -/
def classOf (s : Byte) : StatusClass :=
  if s = Config.stStart then .start
  else if s = Config.stRstart then .rstart
  else if s = Config.stSlawAck then .slawAck
  else if s = Config.stSlawNack then .slawNack
  else if s = Config.stDatwAck then .datwAck
  else if s = Config.stDatwNack then .datwNack
  else if s = Config.stArbLost then .arbLost
  else if s = Config.stBusError then .busError
  else if s = Config.stSlarAck then .slarAck
  else if s = Config.stSlarNack then .slarNack
  else if s = Config.stDatrAck then .datrAck
  else if s = Config.stDatrNack then .datrNack
  else if s = Config.stNoInfo then .noInfo
  else .unclassified

/-- The row of a masked code outside the thirteen (R99: "the other 19"). -/
def unclassifiedRow (s : Byte) : Instr :=
  match s.toNat with
  | 0x60 => .unclassified60
  | 0x68 => .unclassified68
  | 0x70 => .unclassified70
  | 0x78 => .unclassified78
  | 0x80 => .unclassified80
  | 0x88 => .unclassified88
  | 0x90 => .unclassified90
  | 0x98 => .unclassified98
  | 0xA0 => .unclassifiedA0
  | 0xA8 => .unclassifiedA8
  | 0xB0 => .unclassifiedB0
  | 0xB8 => .unclassifiedB8
  | 0xC0 => .unclassifiedC0
  | 0xC8 => .unclassifiedC8
  | 0xD0 => .unclassifiedD0
  | 0xD8 => .unclassifiedD8
  | 0xE0 => .unclassifiedE0
  | 0xE8 => .unclassifiedE8
  | _ => .unclassifiedF0   -- 0xF0, the one left of the 19

/-- The dispatch row that `(mode, s)` selects (R98, R99), for a masked `s`. -/
def statusRow (m : Mode) (s : Byte) : Instr :=
  match m, classOf s with
  | .transmit, .start => .txStart
  | .transmit, .rstart => .txRstart
  | .transmit, .slawAck => .txSlawAck
  | .transmit, .slawNack => .txSlawNack
  | .transmit, .datwAck => .txDatwAck
  | .transmit, .datwNack => .txDatwNack
  | .transmit, .arbLost => .txArbLost
  | .transmit, .busError => .txBusError
  | .transmit, .slarAck => .txDefaultSlarAck
  | .transmit, .slarNack => .txDefaultSlarNack
  | .transmit, .datrAck => .txDefaultDatrAck
  | .transmit, .datrNack => .txDefaultDatrNack
  | .receive, .start => .rxStart
  | .receive, .rstart => .rxRstart
  | .receive, .slawAck => .rxDefaultSlawAck
  | .receive, .slawNack => .rxDefaultSlawNack
  | .receive, .datwAck => .rxDefaultDatwAck
  | .receive, .datwNack => .rxDefaultDatwNack
  | .receive, .arbLost => .rxArbLost
  | .receive, .busError => .rxBusError
  | .receive, .slarAck => .rxSlarAck
  | .receive, .slarNack => .rxSlarNack
  | .receive, .datrAck => .rxDatrAck
  | .receive, .datrNack => .rxDatrNack
  | .transmit, .noInfo => .noInfo
  | .receive, .noInfo => .noInfo
  | .transmit, .unclassified => unclassifiedRow s
  | .receive, .unclassified => unclassifiedRow s

/-! ## The whole decoder -/

/-- A word with the place it arrives at, which fixes its format. -/
inductive RawWord where
  /-- Format CMD on the command port; bits above `15+LEN_W` are not on the port. -/
  | cmd (w : BitVec 32)
  /-- Format PRIM with the second select bit `prim_phase` (R95). -/
  | prim (sel : BitVec 4) (phase : Phase)
  /-- Format STAT, the low byte of a status register value, in the table of `mode` (R98). -/
  | stat (mode : Mode) (b : Byte)
  /-- A sequencer state code (R102). -/
  | fsm (code : BitVec 5)
deriving DecidableEq, Repr

/-- Why a word is no instruction. -/
inductive DecodeError where
  /-- A state code 17 to 31 (R102: "unused and unreachable"). -/
  | unusedStateCode
  /-- `prim_phase` 1 with a simple primitive (44_bus_primitives.md R215: "`prim_phase` is always 0"). -/
  | phaseOfSimplePrimitive
deriving DecidableEq, Repr

/-- A simple primitive has the first phase only (R215). -/
def simplePrim (ph : Phase) (i : Instr) : Except DecodeError Instr :=
  match ph with
  | .first => .ok i
  | .second => .error .phaseOfSimplePrimitive

/-- The primitive of a select and a phase (R95, R215). -/
def decodePrim (sel : BitVec 4) (ph : Phase) : Except DecodeError Instr :=
  match sel.toNat with
  | 0 => .ok .pNone
  | 1 => simplePrim ph .pStartSet
  | 2 => simplePrim ph .pStartClr
  | 3 => .ok (.pStopSet ph)
  | 4 => simplePrim ph .pStopClr
  | 5 => simplePrim ph .pAckSet
  | 6 => simplePrim ph .pAckClr
  | 7 => .ok (.pAddrLoad ph)
  | 8 => .ok (.pDataWrite ph)
  | 9 => simplePrim ph .pDataRead
  | 10 => simplePrim ph .pSiWait
  | 11 => simplePrim ph .pSiClr
  | 12 => simplePrim ph .pStatRead
  | 13 => .ok .pReserved13
  | 14 => .ok .pReserved14
  | _ => .ok .pReserved15

/-- The sequencer state of a code (R102). -/
def decodeState (code : BitVec 5) : Except DecodeError SeqState :=
  match code.toNat with
  | 0 => .ok .idle
  | 1 => .ok .start
  | 2 => .ok .decStat
  | 3 => .ok .decSi
  | 4 => .ok .dispatch
  | 5 => .ok .addrDat
  | 6 => .ok .addrAa
  | 7 => .ok .staClr
  | 8 => .ok .txdDat
  | 9 => .ok .txdAa
  | 10 => .ok .rxdRead
  | 11 => .ok .ackSet
  | 12 => .ok .ackClr
  | 13 => .ok .siClr
  | 14 => .ok .stopSto
  | 15 => .ok .stopSi
  | 16 => .ok .ret
  | _ => .error .unusedStateCode

/-- The decoder, total on every word, for an instance of width `L`. -/
def decode (L : LenW) : RawWord → Except DecodeError Instr
  | .cmd w => .ok (decodeCmd L w)
  | .prim sel ph => decodePrim sel ph
  | .stat m b => .ok (statusRow m (maskStatus b))
  | .fsm code => (decodeState code).map SeqState.row

/-! ## The encoder -/

/-- The word of an instruction: reserved bits and unused fields zero (R106), a status of either mode in the transmit
table, `prim_phase` 0 where it does not matter. -/
def encode : Instr → RawWord
  | .init => .cmd (CmdWord.mk 0#3 0#7 0#16)
  | .transmit a n => .cmd (CmdWord.mk 1#3 a n)
  | .request a n => .cmd (CmdWord.mk 2#3 a n)
  | .available => .cmd (CmdWord.mk 3#3 0#7 0#16)
  | .read n => .cmd (CmdWord.mk 4#3 0#7 n)
  | .reserved5 => .cmd (CmdWord.mk 5#3 0#7 0#16)
  | .reserved6 => .cmd (CmdWord.mk 6#3 0#7 0#16)
  | .reserved7 => .cmd (CmdWord.mk 7#3 0#7 0#16)
  | .pNone => .prim 0#4 .first
  | .pStartSet => .prim 1#4 .first
  | .pStartClr => .prim 2#4 .first
  | .pStopSet ph => .prim 3#4 ph
  | .pStopClr => .prim 4#4 .first
  | .pAckSet => .prim 5#4 .first
  | .pAckClr => .prim 6#4 .first
  | .pAddrLoad ph => .prim 7#4 ph
  | .pDataWrite ph => .prim 8#4 ph
  | .pDataRead => .prim 9#4 .first
  | .pSiWait => .prim 10#4 .first
  | .pSiClr => .prim 11#4 .first
  | .pStatRead => .prim 12#4 .first
  | .pReserved13 => .prim 13#4 .first
  | .pReserved14 => .prim 14#4 .first
  | .pReserved15 => .prim 15#4 .first
  | .txStart => .stat .transmit Config.stStart
  | .txRstart => .stat .transmit Config.stRstart
  | .txSlawAck => .stat .transmit Config.stSlawAck
  | .txSlawNack => .stat .transmit Config.stSlawNack
  | .txDatwAck => .stat .transmit Config.stDatwAck
  | .txDatwNack => .stat .transmit Config.stDatwNack
  | .txArbLost => .stat .transmit Config.stArbLost
  | .txBusError => .stat .transmit Config.stBusError
  | .rxStart => .stat .receive Config.stStart
  | .rxRstart => .stat .receive Config.stRstart
  | .rxArbLost => .stat .receive Config.stArbLost
  | .rxSlarAck => .stat .receive Config.stSlarAck
  | .rxSlarNack => .stat .receive Config.stSlarNack
  | .rxDatrAck => .stat .receive Config.stDatrAck
  | .rxDatrNack => .stat .receive Config.stDatrNack
  | .rxBusError => .stat .receive Config.stBusError
  | .txDefaultSlarAck => .stat .transmit Config.stSlarAck
  | .txDefaultSlarNack => .stat .transmit Config.stSlarNack
  | .txDefaultDatrAck => .stat .transmit Config.stDatrAck
  | .txDefaultDatrNack => .stat .transmit Config.stDatrNack
  | .rxDefaultSlawAck => .stat .receive Config.stSlawAck
  | .rxDefaultSlawNack => .stat .receive Config.stSlawNack
  | .rxDefaultDatwAck => .stat .receive Config.stDatwAck
  | .rxDefaultDatwNack => .stat .receive Config.stDatwNack
  | .unclassified60 => .stat .transmit 0x60#8
  | .unclassified68 => .stat .transmit 0x68#8
  | .unclassified70 => .stat .transmit 0x70#8
  | .unclassified78 => .stat .transmit 0x78#8
  | .unclassified80 => .stat .transmit 0x80#8
  | .unclassified88 => .stat .transmit 0x88#8
  | .unclassified90 => .stat .transmit 0x90#8
  | .unclassified98 => .stat .transmit 0x98#8
  | .unclassifiedA0 => .stat .transmit 0xA0#8
  | .unclassifiedA8 => .stat .transmit 0xA8#8
  | .unclassifiedB0 => .stat .transmit 0xB0#8
  | .unclassifiedB8 => .stat .transmit 0xB8#8
  | .unclassifiedC0 => .stat .transmit 0xC0#8
  | .unclassifiedC8 => .stat .transmit 0xC8#8
  | .unclassifiedD0 => .stat .transmit 0xD0#8
  | .unclassifiedD8 => .stat .transmit 0xD8#8
  | .unclassifiedE0 => .stat .transmit 0xE0#8
  | .unclassifiedE8 => .stat .transmit 0xE8#8
  | .unclassifiedF0 => .stat .transmit 0xF0#8
  | .noInfo => .stat .transmit Config.stNoInfo
  | .sIdle => .fsm (SeqState.code .idle)
  | .sStart => .fsm (SeqState.code .start)
  | .sDecStat => .fsm (SeqState.code .decStat)
  | .sDecSi => .fsm (SeqState.code .decSi)
  | .sDispatch => .fsm (SeqState.code .dispatch)
  | .sAddrDat => .fsm (SeqState.code .addrDat)
  | .sAddrAa => .fsm (SeqState.code .addrAa)
  | .sStaClr => .fsm (SeqState.code .staClr)
  | .sTxdDat => .fsm (SeqState.code .txdDat)
  | .sTxdAa => .fsm (SeqState.code .txdAa)
  | .sRxdRead => .fsm (SeqState.code .rxdRead)
  | .sAckSet => .fsm (SeqState.code .ackSet)
  | .sAckClr => .fsm (SeqState.code .ackClr)
  | .sSiClr => .fsm (SeqState.code .siClr)
  | .sStopSto => .fsm (SeqState.code .stopSto)
  | .sStopSi => .fsm (SeqState.code .stopSi)
  | .sReturn => .fsm (SeqState.code .ret)

/-! ## The opcode table's words -/

/-- The word that a word of `nbits` bits of spec/opcode_table.json stands for. The table's four formats share bit patterns
(the word 0 is `INIT`, `P_NONE`, `TX_BUS_ERROR`, `RX_BUS_ERROR` and `S_IDLE`): the hardware tells them apart by where a
word stands, which the table's number does not say. DESIGN CHOICE (log 6): a word of more than a byte is a command; of the
words of one byte, 0 to 7 are commands with operand fields zero, 9 to 15 sequencer states, and the rest status bytes, of
the transmit table where it has a row of its own for the code and else of the receive table. -/
def tableRawWord (nbits w : Nat) : Option RawWord :=
  if nbits ≤ 8 then
    if 256 ≤ w then none
    else if w < 8 then some (.cmd (BitVec.ofNat 32 w))
    else if 9 ≤ w ∧ w ≤ 15 then some (.fsm (BitVec.ofNat 5 w))
    else if 0x40 ≤ w ∧ w < 0x60 then some (.stat .receive (BitVec.ofNat 8 w))
    else some (.stat .transmit (BitVec.ofNat 8 w))
  else some (.cmd (BitVec.ofNat 32 w))

/-- The instruction the decoder reads from a word of the opcode table, for the default width. -/
def decodeTableWord (nbits w : Nat) : Option Instr :=
  match tableRawWord nbits w with
  | some r => (decode .default8 r).toOption
  | none => none

end Sys2Proof
end

