-- ==== Sys2Proof/Machine/State.lean ====
section
/-! DEFINITION. The state of the CORE and its inputs as plain data (10_state.md), the reasons a step can stop, and the
state after reset (R41, R290). -/

namespace Sys2Proof.Machine

/-- Bytes by address, addresses strictly rising (`Memory.wf`). An unlisted address has no value: `Memory.read` answers
`none` there. Used for the spaces RXBUF and TXMEM (20_memory.md R60). -/
abbrev Memory := List Host.Cell

/-- What the host presents on the command port: the word (`cmd_word`, R40) and the bytes `data[0..)` it shows in TXMEM
while that command runs (20_memory.md R78). -/
structure HostCmd where
  word : BitVec 32
  data : List Byte
deriving DecidableEq, Repr

/-- The fault bits (30_encoding.md R103). -/
inductive FaultBit where
  | rxOverrun | unclassified | illegalCmd
deriving DecidableEq, Repr

/-- The events of a run, in the notation of 00_scope.md R15. -/
inductive Event where
  /-- `CMD`: a command word accepted. -/
  | cmd (w : BitVec 32)
  /-- `W REG`: a register write with the low byte of its data (the other bits are 0, R65). -/
  | regWrite (reg : RegName) (v : Byte)
  /-- `R REG`: a register read and the value the environment returned. -/
  | regRead (reg : RegName) (v : RegWord)
  /-- `DISPATCH`: the dispatch step and the class it found. -/
  | dispatch (k : StatusClass)
  /-- `FAULT`: a fault bit set; of the three bits only a dropped byte's (R182) shows in a trace (log 8). -/
  | faultSet (b : FaultBit)
  /-- `INITSEQ`: the platform-initialisation sequence of `INIT` (R124). -/
  | initSeq
  /-- `RSP`: the response word. -/
  | rsp (v : Resp)
deriving DecidableEq, Repr

/-- The state. The fields' rules and reset values are listed in INVENTORY.md. -/
structure State where
  /-- The instance's `LEN_W` (R11); no step changes it. -/
  lenW : LenW
  /-- The sequencer state, the program counter of this hardware (R20). -/
  fsm : SeqState
  /-- The Transaction Mode (R21). -/
  mode : Mode
  /-- The target address of the transaction in flight (R22). -/
  addrQ : Addr
  /-- The `length` of the transaction in flight (R23). -/
  lenQ : Len
  /-- The number of data bytes loaded, the index of the next (R24). -/
  txIdx : Len
  /-- The allocated length of the receive buffer (R25). -/
  allocLen : Len
  /-- The fill cursor (R26). -/
  cursor : Len
  /-- The latched, masked status code (R27). -/
  statQ : Byte
  /-- The value the response will carry (R28). -/
  result : Resp
  /-- The sticky fault bits (R29). -/
  fault : BitVec 3
  /-- `INIT` has run (R30). -/
  initDone : Bool
  /-- The receive buffer's cells (R31). -/
  rxBuf : Memory
  /-- Hidden state (R38): START, STOP and ACK-enable at the bit positions of R97 as the CORE's writes leave them. No rule
  reads it. -/
  ctl : Byte
  /-- Input: the reset pin (R40, R290). -/
  rst : Bool
  /-- Input: the commands the host presents, the one on the port first (R40, R120). -/
  cmds : List HostCmd
  /-- Input: the space TXMEM, what the host shows on `tx_byte` (R60, R78). -/
  txMem : Memory
  /-- Input: the environment's answers to the next register reads, the next first (R74). -/
  reads : List RegWord
  /-- The model's own: the number of register operations performed, which selects the free values (log 18). -/
  tick : Nat
  /-- The model's own: the run's event list (R10, R75), oldest first (log 18). -/
  trace : List Event
deriving DecidableEq, Repr

/-- Why the machine stops with a fault. -/
inductive Fault where
  /-- An RXBUF cell at an index at or above `2^LEN_W`, which does not exist (20_memory.md R60). Raised by `READ` and by the
  store of `S_RXD_READ`. Safe: no state that satisfies `State.Inv` reaches it (R62: "no access is ever outside"). Log 15. -/
  | rxBufOutOfRange
deriving DecidableEq, Repr

/-- Why an instruction has no meaning. -/
inductive Refusal where
  /-- Raised by `exec`'s arms of instructions without a meaning; no arm raises it now. Safe: the machine stops. -/
  | notModelled (mnemonic : String)
deriving DecidableEq, Repr

/-- The state after reset (10_state.md R41, 70_reset_and_hazards.md R290). The registers are the table's. RXBUF lists
nothing (log 5), `ctl` is 0 (log 9), the inputs are empty and `rst` is released (logs 11, 18), `LEN_W` is the default
(log 1). -/
def State.reset : State where
  lenW := .default8
  fsm := .idle
  mode := .transmit
  addrQ := 0#7
  lenQ := 0#16
  txIdx := 0#16
  allocLen := 0#16
  cursor := 0#16
  statQ := 0xF8#8
  result := 0#16
  fault := 0#3
  initDone := false
  rxBuf := []
  ctl := 0#8
  rst := false
  cmds := []
  txMem := []
  reads := []
  tick := 0
  trace := []

end Sys2Proof.Machine
end

