-- ==== Sys2Proof/Machine/Operands.lean ====
section
/-! DEFINITION. Operand forms: the address byte, the byte of a register value, zero extension to the response, the byte
on the `tx_byte` port. -/

namespace Sys2Proof.Machine

/-- The address byte `{addr_q, mode}` (30_encoding.md R101). -/
def slaByte (a : Addr) (m : Mode) : Byte := a ++ m.bit

/-- The bits of a read that carry meaning, `[7:0]` (20_memory.md R64). -/
def lowByte (v : RegWord) : Byte := v.setWidth 8

/-- The write data of the register boundary, `zext_32` (R65). -/
def regData (v : Byte) : RegWord := v.setWidth 32

/-- `zext_16` of a status code or a byte (R94). -/
def respOfByte (b : Byte) : Resp := b.setWidth 16

/-- `zext_16` of a count (R94): the container has the response's width. -/
def respOfLen (n : Len) : Resp := n

/-- The value of a byte of memory, `none` where the address is not listed. -/
def Memory.read : Memory → Nat → Option Byte
  | [], _ => none
  | (k, b) :: m, a => if a = k then some b else Memory.read m a

/-- The byte on the `tx_byte` port, `TxMem[tx_idx]` (R40, R63). An index the host placed no byte at shows a free value
(log 4). -/
def State.txByte (s : State) : Byte :=
  (s.txMem.read s.txIdx.toNat).getD (Config.txByteFree s.tick)

/-- The answer the environment gives to a read performed now (R74): the first queued answer, else a free value (log 2). -/
def State.regRdata (s : State) : RegWord :=
  match s.reads with
  | v :: _ => v
  | [] => Config.envRead s.tick

end Sys2Proof.Machine
end

