-- ==== Sys2Proof/Machine/Flags.lean ====
section
/-! DEFINITION. The flags: the sticky fault bits (30_encoding.md R103), the transfer-complete flag as read (R97) and the
control bits as written (20_memory.md R70). -/

namespace Sys2Proof.Machine

/-- The mask of a fault bit in the register `fault` (R103). -/
def FaultBit.mask : FaultBit → BitVec 3
  | .rxOverrun => 0b001#3
  | .unclassified => 0b010#3
  | .illegalCmd => 0b100#3

/-- `fault[k] <- 1` (R29: a bit is set by its rule and cleared only by reset). It records no event: the traces of R160, R179
and R127 have none; the one of RX_OVERRUN is the store's (R182). -/
def State.setFault (s : State) (b : FaultBit) : State :=
  { s with fault := s.fault ||| b.mask }

/-- The transfer-complete flag `c[BIT_SI]` of a value read from `CONSET` (41_status_decoder.md R142). -/
def siFlag (c : RegWord) : Bool := c.getLsbD 3

/-- The control bits after a write: a `CONSET` write asserts and a `CONCLR` write clears exactly the bits of the mask, the
other registers leave them (R70). -/
def ctlAfterWrite (ctl : Byte) : RegName → Byte → Byte
  | .conset, v => ctl ||| v
  | .conclr, v => ctl &&& ~~~v
  | .stat, _ => ctl
  | .dat, _ => ctl

/-- START as the CORE's writes leave it (R38). -/
def State.sta (s : State) : Bool := s.ctl.getLsbD 5
/-- STOP as the CORE's writes leave it. -/
def State.sto (s : State) : Bool := s.ctl.getLsbD 4
/-- ACK-enable as the CORE's writes leave it. -/
def State.aa (s : State) : Bool := s.ctl.getLsbD 2

end Sys2Proof.Machine
end

