-- ==== Sys2Proof/Machine/Ops.lean ====
section
/-! DEFINITION. The named operations over the state: the two memories, the register boundary and its multiplexer, the end
of a command, taking a failure (the place of exceptions in this hardware, 60_exceptions.md R271) and the return from it
(R272), the receive store and the reset. -/

namespace Sys2Proof.Machine

/-- What an instruction's meaning answers. -/
abbrev Result := Host.Outcome State Fault Refusal

/-! ## Memory -/

/-- Write one byte, keeping the addresses strictly rising. -/
def Memory.write : Memory → Nat → Byte → Memory
  | [], a, b => [(a, b)]
  | (k, c) :: m, a, b =>
    if a < k then (a, b) :: (k, c) :: m
    else if a = k then (a, b) :: m
    else (k, c) :: Memory.write m a b

/-- The canonical form: addresses strictly rising. No address reads as a value without being listed, so there is no
other condition. -/
def Memory.wf (m : Memory) : Bool := decide (m.Pairwise fun x y => x.1 < y.1)

/-- The bytes `data` from address `a` on. -/
def Memory.ofBytesFrom : Nat → List Byte → Memory
  | _, [] => []
  | a, b :: bs => (a, b) :: Memory.ofBytesFrom (a + 1) bs

/-- A byte array as a space indexed from 0 (TXMEM, 20_memory.md R63). -/
def Memory.ofBytes (data : List Byte) : Memory := Memory.ofBytesFrom 0 data

/-- The content of a cell of RXBUF, a free value where nothing was stored (log 5). -/
def State.rxCell (s : State) (i : Nat) : Byte := (s.rxBuf.read i).getD (Config.rxCell i)

/-! ## The register boundary (20_memory.md R64, R65) -/

/-- What the multiplexer emits (format REGOP, 30_encoding.md R96). -/
inductive RegOp where
  | write (reg : RegName) (v : Byte)
  | read (reg : RegName)
deriving DecidableEq, Repr

/-- `RegWrite(reg, v)` (R65): the write is recorded (R75) and acts on the control bits (R70). -/
def State.regWrite (s : State) (reg : RegName) (v : Byte) : State :=
  { s with
    ctl := ctlAfterWrite s.ctl reg v
    tick := s.tick + 1
    trace := s.trace ++ [.regWrite reg v] }

/-- `RegRead(reg)` (R64), less its value, which is `s.regRdata`: one answer of the environment is used up. -/
def State.regRead (s : State) (reg : RegName) : State :=
  { s with
    reads := s.reads.tail
    tick := s.tick + 1
    trace := s.trace ++ [.regRead reg s.regRdata] }

/-- One operation at the register boundary. -/
def State.perform (s : State) : RegOp → State
  | .write reg v => s.regWrite reg v
  | .read reg => s.regRead reg

/-- The multiplexer (44_bus_primitives.md R215), combinational: its inputs are the select, the phase, `addr_q`, `mode`
and `tx_byte` (R200). A simple primitive has the first phase only; a second one emits nothing (log 14). -/
def mux (sel : PrimSel) (ph : Phase) (addrQ : Addr) (mode : Mode) (txByte : Byte) : Option RegOp :=
  match sel, ph with
  | .noOp, _ => none
  | .startSet, .first => some (.write .conset Config.maskSTA)
  | .startSet, .second => none
  | .startClr, .first => some (.write .conclr Config.maskSTA)
  | .startClr, .second => none
  | .stopSet, .first => some (.write .conset Config.maskSTO)
  | .stopSet, .second => some (.write .conclr Config.maskSI)
  | .stopClr, .first => some (.write .conclr Config.maskSTO)
  | .stopClr, .second => none
  | .ackSet, .first => some (.write .conset Config.maskAA)
  | .ackSet, .second => none
  | .ackClr, .first => some (.write .conclr Config.maskAA)
  | .ackClr, .second => none
  | .addrLoad, .first => some (.write .dat (slaByte addrQ mode))
  | .addrLoad, .second => some (.write .conset Config.maskAA)
  | .dataWrite, .first => some (.write .dat txByte)
  | .dataWrite, .second => some (.write .conset Config.maskAA)
  | .dataRead, .first => some (.read .dat)
  | .dataRead, .second => none
  | .siWait, .first => some (.read .conset)
  | .siWait, .second => none
  | .siClr, .first => some (.write .conclr Config.maskSI)
  | .siClr, .second => none
  | .statRead, .first => some (.read .stat)
  | .statRead, .second => none
  | .reserved13, _ => none
  | .reserved14, _ => none
  | .reserved15, _ => none

/-- The operation a select and a phase emit in a state. -/
def State.muxOut (s : State) (sel : PrimSel) (ph : Phase) : Option RegOp :=
  mux sel ph s.addrQ s.mode s.txByte

/-- `Prim(P_NAME)` (00_scope.md R14), one phase of it: every register operation of the CORE goes through here (R200). -/
def State.prim (s : State) (sel : PrimSel) (ph : Phase) : State :=
  match s.muxOut sel ph with
  | none => s
  | some op => s.perform op

/-- The select and the phase each sequencer state drives (45_sequencer.md R221). -/
def selectOf : SeqState → PrimSel × Phase
  | .idle => (.noOp, .first)
  | .start => (.startSet, .first)
  | .decStat => (.statRead, .first)
  | .decSi => (.siWait, .first)
  | .dispatch => (.noOp, .first)
  | .addrDat => (.addrLoad, .first)
  | .addrAa => (.addrLoad, .second)
  | .staClr => (.startClr, .first)
  | .txdDat => (.dataWrite, .first)
  | .txdAa => (.dataWrite, .second)
  | .rxdRead => (.dataRead, .first)
  | .ackSet => (.ackSet, .first)
  | .ackClr => (.ackClr, .first)
  | .siClr => (.siClr, .first)
  | .stopSto => (.stopSet, .first)
  | .stopSi => (.stopSet, .second)
  | .ret => (.noOp, .first)

/-! ## Control transfer, the end of a command, failures -/

/-- `fsm <- f`. -/
def State.goto (s : State) (f : SeqState) : State := { s with fsm := f }

/-- Record an event. -/
def State.log (s : State) (e : Event) : State := { s with trace := s.trace ++ [e] }

/-- `result <- v; fsm <- f`: how a terminal row or an accepted command without a transaction ends. -/
def State.finish (s : State) (v : Resp) (f : SeqState) : State := { s with result := v, fsm := f }

/-- "issue STOP, return success (0x00)" (R107): the response is set and the stop states follow. -/
def State.stopSuccess (s : State) : State := s.finish Config.success .stopSto

/-- Taking a failure that the document's tables name (60_exceptions.md R271): "return the raw status code", the one
thing saved is `result`; `f` is `S_STOP_STO` where STOP is issued and `S_RETURN` where not. -/
def State.fail (s : State) (f : SeqState) : State := s.finish (respOfByte s.statQ) f

/-- Taking the failure of the default arm (45_sequencer.md R236): the sticky bit, the raw code, no STOP, no flag clear, and
no event (the traces of R160 and R179 go from `DISPATCH` to `RSP`). -/
def State.defaultArm (s : State) : State := (s.setFault .unclassified).fail .ret

/-- A reserved command (40_commands_and_init.md R127). -/
def State.illegalCmd (s : State) : State := (s.setFault .illegalCmd).finish Config.success .ret

/-- `respond(result)` and the return to `S_IDLE` (R250, R272). -/
def State.respond (s : State) : State := (s.log (.rsp s.result)).goto .idle

/-- The store of 43_receive.md R182: guarded store and increment, else the sticky bit, with the `FAULT` event of R15 (log 8),
and the byte is dropped. -/
def State.store (s : State) (b : Byte) : Result :=
  if s.cursor < s.allocLen then
    if s.cursor.toNat < s.lenW.cells then
      .next { s with rxBuf := s.rxBuf.write s.cursor.toNat b, cursor := s.cursor + 1#16 }
    else .fault .rxBufOutOfRange
  else .next ((s.setFault .rxOverrun).log (.faultSet .rxOverrun))

/-! ## Acceptance (R120) and reset (R290) -/

/-- The command `c` leaves the port: the word is recorded and the host shows the command's transmit data. -/
def State.accept (s : State) (c : HostCmd) (rest : List HostCmd) : State :=
  { s with
    cmds := rest
    txMem := Memory.ofBytes c.data
    trace := s.trace ++ [.cmd (CmdWord.onPort s.lenW c.word)] }

/-- The registers take their reset values (R290); the environment, the host and the record of the run stay; the pin is
released (log 11). RXBUF is unspecified again (log 5). -/
def State.applyReset (s : State) : State :=
  { s with
    fsm := .idle
    mode := .transmit
    addrQ := 0#7
    lenQ := 0#16
    txIdx := 0#16
    allocLen := 0#16
    cursor := 0#16
    statQ := Config.stNoInfo
    result := 0#16
    fault := 0#3
    initDone := false
    rxBuf := []
    rst := false }

end Sys2Proof.Machine
end

