-- ==== Sys2Proof/Machine/Commands.lean ====
section
/-! DEFINITION. The commands: what the acceptance step does for each opcode (40_commands_and_init.md R128, 45_sequencer.md
R222). -/

namespace Sys2Proof.Machine

/-- `INIT` (R124): the platform sequence as one event (log 12), `init_done`, response 0. DESIGN CHOICE (log 22): the control
image `ctl` stays as it was; what the platform sequence makes of the controller's START, STOP and ACK-enable is not in the
source, and that they are clear after it is a launch premise (70_reset_and_hazards.md R291). -/
def execInit (s : State) : Result :=
  .next ({ s.log .initSeq with initDone := true }.finish Config.success .ret)

/-- `TRANSMIT` (42_transmit.md R150): the entry actions at acceptance. -/
def execTransmit (addr : Addr) (n : Len) (s : State) : Result :=
  .next { s with mode := .transmit, addrQ := addr, lenQ := n, txIdx := 0#16, fsm := .start }

/-- `REQUEST` (43_receive.md R170, R181): the buffer is replaced and the entry actions done, all in the one step. -/
def execRequest (addr : Addr) (n : Len) (s : State) : Result :=
  .next { s with allocLen := n, cursor := 0#16, mode := .receive, addrQ := addr, lenQ := n, fsm := .start }

/-- `AVAILABLE` (R184): the cursor. -/
def execAvailable (s : State) : Result :=
  .next (s.finish (respOfLen s.cursor) .ret)

/-- `READ` (R185): the stored byte below the cursor, else the sentinel. -/
def execRead (n : Len) (s : State) : Result :=
  if n < s.cursor then
    if n.toNat < s.lenW.cells then .next (s.finish (respOfByte (s.rxCell n.toNat)) .ret)
    else .fault .rxBufOutOfRange
  else .next (s.finish Config.sentinel .ret)

/-- Reserved opcode 5 (R127). -/
def execReserved5 (s : State) : Result := .next s.illegalCmd

/-- Reserved opcode 6 (R127). -/
def execReserved6 (s : State) : Result := .next s.illegalCmd

/-- Reserved opcode 7 (R127). -/
def execReserved7 (s : State) : Result := .next s.illegalCmd

end Sys2Proof.Machine
end

