-- ==== Sys2Proof/Machine/Primitives.lean ====
section
/-! DEFINITION. The bus primitives: the register operation the multiplexer emits for each select
(44_bus_primitives.md R200 to R216). The value of a read goes to the sequencer (`State.regRdata`). -/

namespace Sys2Proof.Machine

/-- `P_NONE` (R201): no register operation. -/
def execPNone (s : State) : Result := .next (s.prim .noOp .first)

/-- `P_START_SET` (R202): assert START. -/
def execPStartSet (s : State) : Result := .next (s.prim .startSet .first)

/-- `P_START_CLR` (R203): clear START. -/
def execPStartClr (s : State) : Result := .next (s.prim .startClr .first)

/-- `P_STOP_SET` (R204): assert STOP, then clear the transfer-complete flag; one phase each. -/
def execPStopSet (phase : Phase) (s : State) : Result := .next (s.prim .stopSet phase)

/-- `P_STOP_CLR` (R205): clear STOP; no sequencer state selects it. -/
def execPStopClr (s : State) : Result := .next (s.prim .stopClr .first)

/-- `P_ACK_SET` (R206): assert ACK. -/
def execPAckSet (s : State) : Result := .next (s.prim .ackSet .first)

/-- `P_ACK_CLR` (R207): clear ACK, which is "assert NACK". -/
def execPAckClr (s : State) : Result := .next (s.prim .ackClr .first)

/-- `P_ADDR_LOAD` (R210): write the address+direction byte, then assert ACK; one phase each. -/
def execPAddrLoad (phase : Phase) (s : State) : Result := .next (s.prim .addrLoad phase)

/-- `P_DATA_WRITE` (R208): write `TxMem[tx_idx]`, then assert ACK; one phase each. -/
def execPDataWrite (phase : Phase) (s : State) : Result := .next (s.prim .dataWrite phase)

/-- `P_DATA_READ` (R209): read the data register. -/
def execPDataRead (s : State) : Result := .next (s.prim .dataRead .first)

/-- `P_SI_WAIT` (R211): one poll of the transfer-complete flag. -/
def execPSiWait (s : State) : Result := .next (s.prim .siWait .first)

/-- `P_SI_CLR` (R212): clear the transfer-complete flag. -/
def execPSiClr (s : State) : Result := .next (s.prim .siClr .first)

/-- `P_STAT_READ` (R213): read the status register. -/
def execPStatRead (s : State) : Result := .next (s.prim .statRead .first)

/-- `P_RESERVED_13` (R216): a reserved select emits nothing. -/
def execPReserved13 (s : State) : Result := .next (s.prim .reserved13 .first)

/-- `P_RESERVED_14` (R216): a reserved select emits nothing. -/
def execPReserved14 (s : State) : Result := .next (s.prim .reserved14 .first)

/-- `P_RESERVED_15` (R216): a reserved select emits nothing. -/
def execPReserved15 (s : State) : Result := .next (s.prim .reserved15 .first)

end Sys2Proof.Machine
end

