-- ==== Sys2Proof/Machine/Receive.lean ====
section
/-! DEFINITION. The receive dispatch rows (43_receive.md R171 to R179): what the dispatch step does under each
(45_sequencer.md R226). The states it leads to do the rest of the row (R221). -/

namespace Sys2Proof.Machine

/-- `RX_START` (R171): load the address byte; START is not cleared. -/
def execRxStart (s : State) : Result := .next (s.goto .addrDat)

/-- `RX_RSTART` (R172): as `RX_START`; the cursor is not reset. -/
def execRxRstart (s : State) : Result := .next (s.goto .addrDat)

/-- `RX_ARB_LOST` (R173): the raw status code; no STOP, no flag clear. -/
def execRxArbLost (s : State) : Result := .next (s.fail .ret)

/-- `RX_SLAR_ACK` (R174): assert ACK, whatever the allocated length. -/
def execRxSlarAck (s : State) : Result := .next (s.goto .ackSet)

/-- `RX_SLAR_NACK` (R175): STOP, success. -/
def execRxSlarNack (s : State) : Result := .next s.stopSuccess

/-- `RX_DATR_ACK` (R176): read and store the byte; the ack choice follows in `S_RXD_READ`. -/
def execRxDatrAck (s : State) : Result := .next (s.goto .rxdRead)

/-- `RX_DATR_NACK` (R177): read and store the byte; STOP and success follow in `S_RXD_READ`. -/
def execRxDatrNack (s : State) : Result := .next (s.goto .rxdRead)

/-- `RX_BUS_ERROR` (R178): STOP, the raw status code. -/
def execRxBusError (s : State) : Result := .next (s.fail .stopSto)

/-- `RX_DEFAULT_SLAW_ACK` (R179): the default arm, R236. -/
def execRxDefaultSlawAck (s : State) : Result := .next s.defaultArm

/-- `RX_DEFAULT_SLAW_NACK` (R179): the default arm, R236. -/
def execRxDefaultSlawNack (s : State) : Result := .next s.defaultArm

/-- `RX_DEFAULT_DATW_ACK` (R179): the default arm, R236. -/
def execRxDefaultDatwAck (s : State) : Result := .next s.defaultArm

/-- `RX_DEFAULT_DATW_NACK` (R179): the default arm, R236. -/
def execRxDefaultDatwNack (s : State) : Result := .next s.defaultArm

end Sys2Proof.Machine
end

