-- ==== Sys2Proof/Machine/Transmit.lean ====
section
/-! DEFINITION. The transmit dispatch rows (42_transmit.md R151 to R160): what the dispatch step does under each
(45_sequencer.md R226). The states it leads to do the rest of the row (R221). -/

namespace Sys2Proof.Machine

/-- "If bytes remain, load next data byte; else issue STOP and return success" (R153): bytes remain when
`tx_idx < len_q`. -/
def State.bytesRemainOrStop (s : State) : State :=
  if s.txIdx < s.lenQ then s.goto .txdDat else s.stopSuccess

/-- `TX_START` (R151): load the address byte (and then clear START). -/
def execTxStart (s : State) : Result := .next (s.goto .addrDat)

/-- `TX_RSTART` (R152): as `TX_START`. -/
def execTxRstart (s : State) : Result := .next (s.goto .addrDat)

/-- `TX_SLAW_ACK` (R153): the next data byte, or STOP and success. -/
def execTxSlawAck (s : State) : Result := .next s.bytesRemainOrStop

/-- `TX_SLAW_NACK` (R155): STOP, success. -/
def execTxSlawNack (s : State) : Result := .next s.stopSuccess

/-- `TX_DATW_ACK` (R154): as `TX_SLAW_ACK`. -/
def execTxDatwAck (s : State) : Result := .next s.bytesRemainOrStop

/-- `TX_DATW_NACK` (R156): STOP, success. -/
def execTxDatwNack (s : State) : Result := .next s.stopSuccess

/-- `TX_ARB_LOST` (R157): the raw status code; no STOP, no flag clear. -/
def execTxArbLost (s : State) : Result := .next (s.fail .ret)

/-- `TX_BUS_ERROR` (R159): STOP, the raw status code. -/
def execTxBusError (s : State) : Result := .next (s.fail .stopSto)

/-- `TX_DEFAULT_SLAR_ACK` (R160): the default arm, R236. -/
def execTxDefaultSlarAck (s : State) : Result := .next s.defaultArm

/-- `TX_DEFAULT_SLAR_NACK` (R160): the default arm, R236. -/
def execTxDefaultSlarNack (s : State) : Result := .next s.defaultArm

/-- `TX_DEFAULT_DATR_ACK` (R160): the default arm, R236. -/
def execTxDefaultDatrAck (s : State) : Result := .next s.defaultArm

/-- `TX_DEFAULT_DATR_NACK` (R160): the default arm, R236. -/
def execTxDefaultDatrNack (s : State) : Result := .next s.defaultArm

end Sys2Proof.Machine
end

