-- ==== Sys2Proof/Machine/Unclassified.lean ====
section
/-! DEFINITION. The statuses of either mode: the nineteen codes outside the thirteen, which take the default arm
(45_sequencer.md R236), and no-new-state, on which the decoder polls again (41_status_decoder.md R141). -/

namespace Sys2Proof.Machine

/-- `UNCLASSIFIED_60` (R236): the default arm, R236. -/
def execUnclassified60 (s : State) : Result := .next s.defaultArm

/-- `UNCLASSIFIED_68` (R236): the default arm, R236. -/
def execUnclassified68 (s : State) : Result := .next s.defaultArm

/-- `UNCLASSIFIED_70` (R236): the default arm, R236. -/
def execUnclassified70 (s : State) : Result := .next s.defaultArm

/-- `UNCLASSIFIED_78` (R236): the default arm, R236. -/
def execUnclassified78 (s : State) : Result := .next s.defaultArm

/-- `UNCLASSIFIED_80` (R236): the default arm, R236. -/
def execUnclassified80 (s : State) : Result := .next s.defaultArm

/-- `UNCLASSIFIED_88` (R236): the default arm, R236. -/
def execUnclassified88 (s : State) : Result := .next s.defaultArm

/-- `UNCLASSIFIED_90` (R236): the default arm, R236. -/
def execUnclassified90 (s : State) : Result := .next s.defaultArm

/-- `UNCLASSIFIED_98` (R236): the default arm, R236. -/
def execUnclassified98 (s : State) : Result := .next s.defaultArm

/-- `UNCLASSIFIED_A0` (R236): the default arm, R236. -/
def execUnclassifiedA0 (s : State) : Result := .next s.defaultArm

/-- `UNCLASSIFIED_A8` (R236): the default arm, R236. -/
def execUnclassifiedA8 (s : State) : Result := .next s.defaultArm

/-- `UNCLASSIFIED_B0` (R236): the default arm, R236. -/
def execUnclassifiedB0 (s : State) : Result := .next s.defaultArm

/-- `UNCLASSIFIED_B8` (R236): the default arm, R236. -/
def execUnclassifiedB8 (s : State) : Result := .next s.defaultArm

/-- `UNCLASSIFIED_C0` (R236): the default arm, R236. -/
def execUnclassifiedC0 (s : State) : Result := .next s.defaultArm

/-- `UNCLASSIFIED_C8` (R236): the default arm, R236. -/
def execUnclassifiedC8 (s : State) : Result := .next s.defaultArm

/-- `UNCLASSIFIED_D0` (R236): the default arm, R236. -/
def execUnclassifiedD0 (s : State) : Result := .next s.defaultArm

/-- `UNCLASSIFIED_D8` (R236): the default arm, R236. -/
def execUnclassifiedD8 (s : State) : Result := .next s.defaultArm

/-- `UNCLASSIFIED_E0` (R236): the default arm, R236. -/
def execUnclassifiedE0 (s : State) : Result := .next s.defaultArm

/-- `UNCLASSIFIED_E8` (R236): the default arm, R236. -/
def execUnclassifiedE8 (s : State) : Result := .next s.defaultArm

/-- `UNCLASSIFIED_F0` (R236): the default arm, R236. -/
def execUnclassifiedF0 (s : State) : Result := .next s.defaultArm

/-- `NO_INFO` (R141): "poll again". Nothing is latched. It is never dispatched (R145): `S_DEC_STAT` runs it after the
read that gave it. -/
def execNoInfo (s : State) : Result := .next (s.goto .decStat)

end Sys2Proof.Machine
end

