-- ==== Sys2Proof/Machine/Sequencer.lean ====
section
/-! DEFINITION. The seventeen sequencer states: the step of each (45_sequencer.md R222 to R250). -/

namespace Sys2Proof.Machine

/-- The primitive the state `f` selects, performed (R221). -/
def State.selected (s : State) (f : SeqState) : State := s.prim (selectOf f).1 (selectOf f).2

/-- The case on `op` of the acceptance step (R222). -/
def runCommand (w : BitVec 32) (s : State) : Result :=
  match (CmdWord.op w).toNat with
  | 0 => execInit s
  | 1 => execTransmit (CmdWord.addr w) (CmdWord.n s.lenW w) s
  | 2 => execRequest (CmdWord.addr w) (CmdWord.n s.lenW w) s
  | 3 => execAvailable s
  | 4 => execRead (CmdWord.n s.lenW w) s
  | 5 => execReserved5 s
  | 6 => execReserved6 s
  | _ => execReserved7 s

/-- `S_IDLE` (R222): with no command presented there is no step and the state is unchanged; else acceptance. -/
def execSIdle (s : State) : Result :=
  match s.cmds with
  | [] => .next s
  | c :: rest => runCommand c.word (s.accept c rest)

/-- `S_START` (R223). -/
def execSStart (s : State) : Result := .next ((s.selected .start).goto .decStat)

/-- `S_DEC_STAT` (R224, R141): the read, the mask, poll again or latch. -/
def execSDecStat (s : State) : Result :=
  let st := maskStatus (lowByte s.regRdata)
  if st = Config.stNoInfo then execNoInfo (s.selected .decStat)
  else .next ({ s.selected .decStat with statQ := st }.goto .decSi)

/-- `S_DEC_SI` (R225, R142): one poll of the flag. -/
def execSDecSi (s : State) : Result :=
  .next ((s.selected .decSi).goto (if siFlag s.regRdata then .dispatch else .decSi))

/-- The dispatch rows of the nineteen unclassified codes; any other value is the default arm too (log 10). -/
def runUnclassified (s : State) : Result :=
  match s.statQ.toNat with
  | 0x60 => execUnclassified60 s
  | 0x68 => execUnclassified68 s
  | 0x70 => execUnclassified70 s
  | 0x78 => execUnclassified78 s
  | 0x80 => execUnclassified80 s
  | 0x88 => execUnclassified88 s
  | 0x90 => execUnclassified90 s
  | 0x98 => execUnclassified98 s
  | 0xA0 => execUnclassifiedA0 s
  | 0xA8 => execUnclassifiedA8 s
  | 0xB0 => execUnclassifiedB0 s
  | 0xB8 => execUnclassifiedB8 s
  | 0xC0 => execUnclassifiedC0 s
  | 0xC8 => execUnclassifiedC8 s
  | 0xD0 => execUnclassifiedD0 s
  | 0xD8 => execUnclassifiedD8 s
  | 0xE0 => execUnclassifiedE0 s
  | 0xE8 => execUnclassifiedE8 s
  | 0xF0 => execUnclassifiedF0 s
  | _ => .next s.defaultArm

/-- The case on `(mode, class(stat_q))` of the dispatch step (R226). `NO_INFO` is impossible there (R145) and falls under
"otherwise" (log 10). -/
def runRow (s : State) : Result :=
  match s.mode, classOf s.statQ with
  | .transmit, .start => execTxStart s
  | .transmit, .rstart => execTxRstart s
  | .transmit, .slawAck => execTxSlawAck s
  | .transmit, .slawNack => execTxSlawNack s
  | .transmit, .datwAck => execTxDatwAck s
  | .transmit, .datwNack => execTxDatwNack s
  | .transmit, .arbLost => execTxArbLost s
  | .transmit, .busError => execTxBusError s
  | .transmit, .slarAck => execTxDefaultSlarAck s
  | .transmit, .slarNack => execTxDefaultSlarNack s
  | .transmit, .datrAck => execTxDefaultDatrAck s
  | .transmit, .datrNack => execTxDefaultDatrNack s
  | .receive, .start => execRxStart s
  | .receive, .rstart => execRxRstart s
  | .receive, .arbLost => execRxArbLost s
  | .receive, .slarAck => execRxSlarAck s
  | .receive, .slarNack => execRxSlarNack s
  | .receive, .datrAck => execRxDatrAck s
  | .receive, .datrNack => execRxDatrNack s
  | .receive, .busError => execRxBusError s
  | .receive, .slawAck => execRxDefaultSlawAck s
  | .receive, .slawNack => execRxDefaultSlawNack s
  | .receive, .datwAck => execRxDefaultDatwAck s
  | .receive, .datwNack => execRxDefaultDatwNack s
  | .transmit, .unclassified => runUnclassified s
  | .receive, .unclassified => runUnclassified s
  | .transmit, .noInfo => .next s.defaultArm
  | .receive, .noInfo => .next s.defaultArm

/-- `S_DISPATCH` (R226): no register operation; the row of `stat_q` in the table of `mode`. -/
def execSDispatch (s : State) : Result := runRow (s.log (.dispatch (classOf s.statQ)))

/-- `S_ADDR_DAT` (R227). -/
def execSAddrDat (s : State) : Result := .next ((s.selected .addrDat).goto .addrAa)

/-- `S_ADDR_AA` (R228): START is cleared in a transmit only. -/
def execSAddrAa (s : State) : Result :=
  .next ((s.selected .addrAa).goto (match s.mode with | .transmit => .staClr | .receive => .siClr))

/-- `S_STA_CLR` (R229). -/
def execSStaClr (s : State) : Result := .next ((s.selected .staClr).goto .siClr)

/-- `S_TXD_DAT` (R230): the byte is written and the index incremented in the same step. -/
def execSTxdDat (s : State) : Result :=
  .next ({ s.selected .txdDat with txIdx := s.txIdx + 1#16 }.goto .txdAa)

/-- `S_TXD_AA` (R231). -/
def execSTxdAa (s : State) : Result := .next ((s.selected .txdAa).goto .siClr)

/-- What `S_RXD_READ` does after the store (R232): the ack choice on the updated cursor, or STOP and success. -/
def State.afterStore (s : State) : State :=
  if s.statQ = Config.stDatrAck then s.goto (if s.cursor < s.allocLen then .ackSet else .ackClr)
  else s.stopSuccess

/-- `S_RXD_READ` (R232): the read of `DAT` (R308: exactly one), the guarded store, the choice. -/
def execSRxdRead (s : State) : Result :=
  match (s.selected .rxdRead).store (lowByte s.regRdata) with
  | .next t => .next t.afterStore
  | .fault f => .fault f
  | .refused r => .refused r

/-- `S_ACK_SET` (R233). -/
def execSAckSet (s : State) : Result := .next ((s.selected .ackSet).goto .siClr)

/-- `S_ACK_CLR` (R234). -/
def execSAckClr (s : State) : Result := .next ((s.selected .ackClr).goto .siClr)

/-- `S_SI_CLR` (R235). -/
def execSSiClr (s : State) : Result := .next ((s.selected .siClr).goto .decStat)

/-- `S_STOP_STO` (R237). -/
def execSStopSto (s : State) : Result := .next ((s.selected .stopSto).goto .stopSi)

/-- `S_STOP_SI` (R238). -/
def execSStopSi (s : State) : Result := .next ((s.selected .stopSi).goto .ret)

/-- `S_RETURN` (R250): the response; the command's run ends. -/
def execSReturn (s : State) : Result := .next s.respond

end Sys2Proof.Machine
end

