-- ==== Sys2Proof/Machine/Dispatch.lean ====
section
/-! DEFINITION. One arm per instruction. -/

namespace Sys2Proof.Machine

def exec (i : Instr) (s : State) : Host.Outcome State Fault Refusal :=
  match i with
  | .init => Sys2Proof.Machine.execInit s
  | .transmit addr n => Sys2Proof.Machine.execTransmit addr n s
  | .request addr n => Sys2Proof.Machine.execRequest addr n s
  | .available => Sys2Proof.Machine.execAvailable s
  | .read n => Sys2Proof.Machine.execRead n s
  | .reserved5 => Sys2Proof.Machine.execReserved5 s
  | .reserved6 => Sys2Proof.Machine.execReserved6 s
  | .reserved7 => Sys2Proof.Machine.execReserved7 s
  | .pNone => Sys2Proof.Machine.execPNone s
  | .pStartSet => Sys2Proof.Machine.execPStartSet s
  | .pStartClr => Sys2Proof.Machine.execPStartClr s
  | .pStopSet phase => Sys2Proof.Machine.execPStopSet phase s
  | .pStopClr => Sys2Proof.Machine.execPStopClr s
  | .pAckSet => Sys2Proof.Machine.execPAckSet s
  | .pAckClr => Sys2Proof.Machine.execPAckClr s
  | .pAddrLoad phase => Sys2Proof.Machine.execPAddrLoad phase s
  | .pDataWrite phase => Sys2Proof.Machine.execPDataWrite phase s
  | .pDataRead => Sys2Proof.Machine.execPDataRead s
  | .pSiWait => Sys2Proof.Machine.execPSiWait s
  | .pSiClr => Sys2Proof.Machine.execPSiClr s
  | .pStatRead => Sys2Proof.Machine.execPStatRead s
  | .pReserved13 => Sys2Proof.Machine.execPReserved13 s
  | .pReserved14 => Sys2Proof.Machine.execPReserved14 s
  | .pReserved15 => Sys2Proof.Machine.execPReserved15 s
  | .txStart => Sys2Proof.Machine.execTxStart s
  | .txRstart => Sys2Proof.Machine.execTxRstart s
  | .txSlawAck => Sys2Proof.Machine.execTxSlawAck s
  | .txSlawNack => Sys2Proof.Machine.execTxSlawNack s
  | .txDatwAck => Sys2Proof.Machine.execTxDatwAck s
  | .txDatwNack => Sys2Proof.Machine.execTxDatwNack s
  | .txArbLost => Sys2Proof.Machine.execTxArbLost s
  | .txBusError => Sys2Proof.Machine.execTxBusError s
  | .rxStart => Sys2Proof.Machine.execRxStart s
  | .rxRstart => Sys2Proof.Machine.execRxRstart s
  | .rxArbLost => Sys2Proof.Machine.execRxArbLost s
  | .rxSlarAck => Sys2Proof.Machine.execRxSlarAck s
  | .rxSlarNack => Sys2Proof.Machine.execRxSlarNack s
  | .rxDatrAck => Sys2Proof.Machine.execRxDatrAck s
  | .rxDatrNack => Sys2Proof.Machine.execRxDatrNack s
  | .rxBusError => Sys2Proof.Machine.execRxBusError s
  | .txDefaultSlarAck => Sys2Proof.Machine.execTxDefaultSlarAck s
  | .txDefaultSlarNack => Sys2Proof.Machine.execTxDefaultSlarNack s
  | .txDefaultDatrAck => Sys2Proof.Machine.execTxDefaultDatrAck s
  | .txDefaultDatrNack => Sys2Proof.Machine.execTxDefaultDatrNack s
  | .rxDefaultSlawAck => Sys2Proof.Machine.execRxDefaultSlawAck s
  | .rxDefaultSlawNack => Sys2Proof.Machine.execRxDefaultSlawNack s
  | .rxDefaultDatwAck => Sys2Proof.Machine.execRxDefaultDatwAck s
  | .rxDefaultDatwNack => Sys2Proof.Machine.execRxDefaultDatwNack s
  | .unclassified60 => Sys2Proof.Machine.execUnclassified60 s
  | .unclassified68 => Sys2Proof.Machine.execUnclassified68 s
  | .unclassified70 => Sys2Proof.Machine.execUnclassified70 s
  | .unclassified78 => Sys2Proof.Machine.execUnclassified78 s
  | .unclassified80 => Sys2Proof.Machine.execUnclassified80 s
  | .unclassified88 => Sys2Proof.Machine.execUnclassified88 s
  | .unclassified90 => Sys2Proof.Machine.execUnclassified90 s
  | .unclassified98 => Sys2Proof.Machine.execUnclassified98 s
  | .unclassifiedA0 => Sys2Proof.Machine.execUnclassifiedA0 s
  | .unclassifiedA8 => Sys2Proof.Machine.execUnclassifiedA8 s
  | .unclassifiedB0 => Sys2Proof.Machine.execUnclassifiedB0 s
  | .unclassifiedB8 => Sys2Proof.Machine.execUnclassifiedB8 s
  | .unclassifiedC0 => Sys2Proof.Machine.execUnclassifiedC0 s
  | .unclassifiedC8 => Sys2Proof.Machine.execUnclassifiedC8 s
  | .unclassifiedD0 => Sys2Proof.Machine.execUnclassifiedD0 s
  | .unclassifiedD8 => Sys2Proof.Machine.execUnclassifiedD8 s
  | .unclassifiedE0 => Sys2Proof.Machine.execUnclassifiedE0 s
  | .unclassifiedE8 => Sys2Proof.Machine.execUnclassifiedE8 s
  | .unclassifiedF0 => Sys2Proof.Machine.execUnclassifiedF0 s
  | .noInfo => Sys2Proof.Machine.execNoInfo s
  | .sIdle => Sys2Proof.Machine.execSIdle s
  | .sStart => Sys2Proof.Machine.execSStart s
  | .sDecStat => Sys2Proof.Machine.execSDecStat s
  | .sDecSi => Sys2Proof.Machine.execSDecSi s
  | .sDispatch => Sys2Proof.Machine.execSDispatch s
  | .sAddrDat => Sys2Proof.Machine.execSAddrDat s
  | .sAddrAa => Sys2Proof.Machine.execSAddrAa s
  | .sStaClr => Sys2Proof.Machine.execSStaClr s
  | .sTxdDat => Sys2Proof.Machine.execSTxdDat s
  | .sTxdAa => Sys2Proof.Machine.execSTxdAa s
  | .sRxdRead => Sys2Proof.Machine.execSRxdRead s
  | .sAckSet => Sys2Proof.Machine.execSAckSet s
  | .sAckClr => Sys2Proof.Machine.execSAckClr s
  | .sSiClr => Sys2Proof.Machine.execSSiClr s
  | .sStopSto => Sys2Proof.Machine.execSStopSto s
  | .sStopSi => Sys2Proof.Machine.execSStopSi s
  | .sReturn => Sys2Proof.Machine.execSReturn s

end Sys2Proof.Machine
end

