-- ==== Sys2Proof/Machine/Place.lean ====
section
/-! DEFINITION. Putting an instruction where the next step runs it. -/

namespace Sys2Proof.Machine

/-- Present a command word on the idle port, with no transmit data. -/
def State.presentWord (s : State) (w : BitVec 32) : State :=
  { s with rst := false, fsm := .idle, cmds := ⟨w, []⟩ :: s.cmds }

/-- Stand in `S_DISPATCH` with a latched status in the table of a mode. -/
def State.presentStatus (s : State) (m : Mode) (st : Byte) : State :=
  { s with rst := false, fsm := .dispatch, mode := m, statQ := st }

/-- Stand in a sequencer state. -/
def State.presentState (s : State) (f : SeqState) : State := { s with rst := false, fsm := f }

/-- Stand in `S_DEC_STAT` with the environment about to answer the status read with `b`. -/
def State.presentStatRead (s : State) (b : Byte) : State :=
  { s with rst := false, fsm := .decStat, reads := b.setWidth 32 :: s.reads }

/-- Put a word where the next step takes its instruction from: a command on the port, a status in `stat_q` (no-new-state
is never latched: it stands in the environment's answer), a state code in `fsm`. A multiplexer select is no register: a
sequencer state drives it, so a PRIM word is not placed (log 6). -/
def State.placeWord (s : State) : RawWord → State
  | .cmd w => s.presentWord w
  | .stat m b =>
    if maskStatus b = Config.stNoInfo then s.presentStatRead b else s.presentStatus m (maskStatus b)
  | .fsm code =>
    match decodeState code with
    | .ok f => s.presentState f
    | .error _ => s
  | .prim _ _ => s

end Sys2Proof.Machine
end

