-- ==== Sys2Proof/Machine/Step.lean ====
section
/-! DEFINITION. One step of the machine. -/

namespace Sys2Proof.Machine

/-- The instruction the next step runs: the row of the sequencer state, the program counter of this hardware (R20, R220).
`S_IDLE` takes a command from the port and `S_DISPATCH` a row of the table, inside their own meanings (log 20). -/
def State.fetch (s : State) : Instr := s.fsm.row

/-- One step (R220): `rst` overrides everything (60_exceptions.md R270), else the step of the sequencer state. -/
def step (s : State) : Host.Outcome State Fault Refusal :=
  if s.rst then .next s.applyReset else exec s.fetch s

/-- `s` with a word of spec/opcode_table.json where the next step takes its instruction from (logs 6, 7). -/
def State.withFetchWord (s : State) (nbits w : Nat) : State :=
  match tableRawWord nbits w with
  | some r => s.placeWord r
  | none => s

end Sys2Proof.Machine
end

