-- ==== Sys2Proof/Machine/Ports.lean ====
section
/-! DEFINITION. The output ports as functions of the state (10_state.md R40). -/

namespace Sys2Proof.Machine

/-- `reg_we` (30_encoding.md R96): 1 write, 0 read. -/
def RegOp.we : RegOp → Bool
  | .write _ _ => true
  | .read _ => false

/-- The register an operation addresses. -/
def RegOp.reg : RegOp → RegName
  | .write r _ => r
  | .read r => r

/-- `reg_wdata` of a write, bits `[31:8]` zero (R65). A read carries no data. -/
def RegOp.wdata : RegOp → Option RegWord
  | .write _ v => some (regData v)
  | .read _ => none

/-- The bus address an integrator drives for an operation (20_memory.md R71): the open parameter `REG_OFFSET`. -/
def RegOp.busAddress (op : RegOp) : Nat := Config.regOffset op.reg

/-- `cmd_ready = (fsm = S_IDLE)`. -/
def State.cmdReady (s : State) : Bool := s.fsm = .idle

/-- `busy = (fsm != S_IDLE)`. -/
def State.busy (s : State) : Bool := s.fsm ≠ .idle

/-- `cmd_valid`, from the host: a command word is presented. -/
def State.cmdValid (s : State) : Bool := !s.cmds.isEmpty

/-- `rsp_valid`: 1 during the `S_RETURN` step. -/
def State.rspValid (s : State) : Bool := s.fsm = .ret

/-- `rsp_data`: `result` during the `S_RETURN` step; otherwise unspecified, here no value (log 19). -/
def State.rspData (s : State) : Option Resp := if s.fsm = .ret then some s.result else none

/-- The register operation requested (`reg_req`, `reg_we`, `reg_sel`, `reg_wdata`), `none` where `reg_req` is 0. -/
def State.regRequest (s : State) : Option RegOp := s.muxOut (selectOf s.fsm).1 (selectOf s.fsm).2

/-- `init_req`: an `INIT` is being accepted (40_commands_and_init.md R124). -/
def State.initReq (s : State) : Bool :=
  s.fsm = .idle ∧ (s.cmds.head?.map fun c => CmdWord.op c.word) = some 0#3

end Sys2Proof.Machine
end

