-- ==== Sys2Proof/Safety.lean ====
section
/-! DEFINITION. The terms claims use: the invariant of 10_state.md R42, what a run has received, and runs of several
steps. -/

namespace Sys2Proof.Machine

/-- What each sequencer state is reached with (45_sequencer.md R229 to R234, 41_status_decoder.md R145). -/
def State.pathOk (s : State) : Prop :=
  match s.fsm with
  | .decSi => s.statQ ≠ Config.stNoInfo
  | .dispatch => s.statQ ≠ Config.stNoInfo
  | .staClr => s.mode = .transmit
  | .txdDat => s.mode = .transmit ∧ s.txIdx < s.lenQ
  | .txdAa => s.mode = .transmit
  | .rxdRead => s.mode = .receive ∧ (s.statQ = Config.stDatrAck ∨ s.statQ = Config.stDatrNack)
  | .ackSet => s.mode = .receive
  | .ackClr => s.mode = .receive
  | .idle => True
  | .start => True
  | .decStat => True
  | .addrDat => True
  | .addrAa => True
  | .siClr => True
  | .stopSto => True
  | .stopSi => True
  | .ret => True

/-- The invariant of every reachable state (R42, R24, R26, R27). -/
structure State.Inv (s : State) : Prop where
  /-- The `LEN_W`-bit registers hold `LEN_W`-bit values. -/
  lenFits : s.lenQ.toNat < s.lenW.cells
  txFits : s.txIdx.toNat < s.lenW.cells
  allocFits : s.allocLen.toNat < s.lenW.cells
  /-- "cursor ≤ allocated length always" (R26). -/
  cursorLe : s.cursor ≤ s.allocLen
  /-- `tx_idx <= len_q` while `mode` is Transmit (R42; R24's "always" does not hold after a later, shorter `REQUEST`,
  which latches `len_q` and leaves `tx_idx`: log 16). -/
  txLe : s.mode = .transmit → s.txIdx ≤ s.lenQ
  /-- A receive's `len_q` is copied to `alloc_len` (R23). -/
  rxLen : s.mode = .receive → s.lenQ = s.allocLen
  /-- RXBUF and TXMEM are in canonical form. -/
  bufWf : s.rxBuf.wf = true
  txMemWf : s.txMem.wf = true
  /-- RXBUF lists existing cells only (R31). -/
  bufRange : ∀ c ∈ s.rxBuf, c.1 < s.lenW.cells
  /-- Every cell below the cursor has been stored to (R42). -/
  bufFilled : ∀ i < s.cursor.toNat, (s.rxBuf.read i).isSome = true
  /-- `stat_q` is "already masked" (R27). -/
  statMasked : maskStatus s.statQ = s.statQ
  /-- The CORE asserts no control bit but START, STOP and ACK-enable (R33). -/
  ctlBits : s.ctl &&& 0xCB#8 = 0#8
  path : s.pathOk

/-- The bytes read from `DAT` since the last `REQUEST` was accepted, in order, after one more event. -/
def receivedStep (got : List Byte) : Event → List Byte
  | .cmd w => if CmdWord.op w = 2#3 then [] else got
  | .regRead .dat v => got ++ [lowByte v]
  | .regRead .conset _ => got
  | .regRead .stat _ => got
  | .regRead .conclr _ => got
  | .regWrite _ _ => got
  | .dispatch _ => got
  | .faultSet _ => got
  | .initSeq => got
  | .rsp _ => got

/-- The bytes read from `DAT` since the last `REQUEST` was accepted, in order, by a run's event list. -/
def received (tr : List Event) : List Byte := tr.foldl receivedStep []

/-- The meaning of the cursor and of the cells below it (43_receive.md R183): the bytes read from `DAT` since the last
`REQUEST`, in order, as many as the buffer holds. -/
structure State.BufferInv (s : State) : Prop where
  count : s.cursor.toNat = min (received s.trace).length s.allocLen.toNat
  cells : ∀ i < s.cursor.toNat, s.rxBuf.read i = (received s.trace)[i]?

/-- `n` steps, stopping at the first fault or refusal. -/
def stepN : Nat → State → Result
  | 0, s => .next s
  | n + 1, s =>
    match step s with
    | .next t => stepN n t
    | .fault f => .fault f
    | .refused r => .refused r

/-- Whether an event is an operation at the register boundary. -/
def Event.isRegOp : Event → Bool
  | .regWrite _ _ => true
  | .regRead _ _ => true
  | .cmd _ => false
  | .dispatch _ => false
  | .faultSet _ => false
  | .initSeq => false
  | .rsp _ => false

/-- The event an operation leaves, where the environment's answer to a read is `v`. -/
def RegOp.event (v : RegWord) : RegOp → Event
  | .write r b => .regWrite r b
  | .read r => .regRead r v

/-- The successors of each sequencer state (45_sequencer.md R221). -/
def successorsOf : SeqState → List SeqState
  | .idle => [.start, .ret]
  | .start => [.decStat]
  | .decStat => [.decStat, .decSi]
  | .decSi => [.decSi, .dispatch]
  | .dispatch => [.addrDat, .txdDat, .rxdRead, .ackSet, .stopSto, .ret]
  | .addrDat => [.addrAa]
  | .addrAa => [.staClr, .siClr]
  | .staClr => [.siClr]
  | .txdDat => [.txdAa]
  | .txdAa => [.siClr]
  | .rxdRead => [.ackSet, .ackClr, .stopSto]
  | .ackSet => [.siClr]
  | .ackClr => [.siClr]
  | .siClr => [.decStat]
  | .stopSto => [.stopSi]
  | .stopSi => [.ret]
  | .ret => [.idle]

/-- The status codes that have a row in a mode's table: the rows of 42_transmit.md R151 to R159 and of 43_receive.md R171 to
R178; every other code falls to the default arm (45_sequencer.md R226, R236). -/
def rowCodes : Mode → List Byte
  | .transmit => [0x08#8, 0x10#8, 0x18#8, 0x20#8, 0x28#8, 0x30#8, 0x38#8, 0x00#8]
  | .receive => [0x08#8, 0x10#8, 0x38#8, 0x40#8, 0x48#8, 0x50#8, 0x58#8, 0x00#8]

/-- The state without the record of the run: what two runs are compared by. -/
def State.sansTrace (s : State) : State := { s with trace := [] }

/-- The byte an event writes to `DAT`. -/
def Event.datWrite : Event → Option Byte
  | .regWrite .dat v => some v
  | .regWrite .conset _ => none
  | .regWrite .conclr _ => none
  | .regWrite .stat _ => none
  | .regRead _ _ => none
  | .cmd _ => none
  | .dispatch _ => none
  | .faultSet _ => none
  | .initSeq => none
  | .rsp _ => none

/-- The two reads of a decode that finds the status `code` at once: the status, then the flag raised. -/
def decodeReads (code : Byte) : List RegWord := [code.setWidth 32, 0x08#32]

/-- The environment's answers in a transmit of `n` bytes, all acknowledged (the source's property X4 of
95_test_vectors.md): start, address+W acked, `n` times data acked. -/
def transmitAckedReads (n : Nat) : List RegWord :=
  decodeReads Config.stStart ++ decodeReads Config.stSlawAck ++
    (List.replicate n (decodeReads Config.stDatwAck)).flatten

/-- The environment's answers in a receive of `front` and then `last` (43_receive.md R187): start, address+R acked, each
byte but the last with data-received+ack, the last with data-received+nack. -/
def requestReads (front : List Byte) (last : Byte) : List RegWord :=
  decodeReads Config.stStart ++ decodeReads Config.stSlarAck ++
    front.flatMap (fun b => decodeReads Config.stDatrAck ++ [b.setWidth 32]) ++
    decodeReads Config.stDatrNack ++ [last.setWidth 32]

end Sys2Proof.Machine
end

