-- ==== Sys2Proof/Certificates/Slice0/Obligations.lean ====
section
/-! DEFINITION. The statements for the provers. Each docstring names the rules it formalises. Where a premise is needed
only in states no run reaches it is (part of) `State.Inv`, which `StepKeepsTheInvariant` states. -/

open Sys2Proof Sys2Proof.Machine

/-! ## Reset and the invariant -/

/-- 10_state.md R41, 70_reset_and_hazards.md R290: the registers and the output ports right after reset (not RXBUF, which
the spec leaves unspecified). -/
def Obligations.ResetShowsTheTablesValues : Prop :=
  State.reset.fsm = .idle ∧ State.reset.mode = .transmit ∧ State.reset.addrQ = 0#7 ∧ State.reset.lenQ = 0#16 ∧
  State.reset.txIdx = 0#16 ∧ State.reset.allocLen = 0#16 ∧ State.reset.cursor = 0#16 ∧ State.reset.statQ = 0xF8#8 ∧
  State.reset.result = 0x0000#16 ∧ State.reset.fault = 0b000#3 ∧ State.reset.initDone = false ∧
  State.reset.cmdReady = true ∧ State.reset.busy = false ∧ State.reset.rspValid = false ∧
  State.reset.regRequest = none ∧ State.reset.initReq = false

/-- R290, 60_exceptions.md R270 ("`rst` overrides everything"): from every state, the step with `rst` asserted gives every
register its reset value. The rest is the model's choice: that no register operation takes effect, also in a state in the
middle of a transaction (R290 and R317 leave open whether one in flight did: logs 11, 17), that the control image, the
answers, the queued commands, TXMEM and the event list are kept, and that the step releases the pin (log 11). -/
def Obligations.ResetInputOverridesEveryState : Prop :=
  ∀ s : State, s.rst = true → ∃ t, step s = .next t ∧
    t.fsm = .idle ∧ t.mode = .transmit ∧ t.addrQ = 0#7 ∧ t.lenQ = 0#16 ∧ t.txIdx = 0#16 ∧ t.allocLen = 0#16 ∧
    t.cursor = 0#16 ∧ t.statQ = 0xF8#8 ∧ t.result = 0#16 ∧ t.fault = 0#3 ∧ t.initDone = false ∧
    t.lenW = s.lenW ∧ t.ctl = s.ctl ∧ t.reads = s.reads ∧ t.cmds = s.cmds ∧ t.txMem = s.txMem ∧ t.tick = s.tick ∧
    t.trace = s.trace ∧ t.rst = false

/-- The invariants hold at `State.reset` (R41, R42, R183). Some clauses hold there by the model's choices: the control
bits by `ctl = 0` (log 9; R41 leaves them to the environment), the forms of RXBUF and TXMEM and its cells' range by the empty
lists (logs 5, 18), the received bytes by the empty event list (log 18). -/
def Obligations.ResetMeetsTheInvariants : Prop := State.reset.Inv ∧ State.reset.BufferInv

/-- 10_state.md R42: from every state that meets it, a step keeps the invariant. -/
def Obligations.StepKeepsTheInvariant : Prop := ∀ s t : State, s.Inv → step s = .next t → t.Inv

/-- 43_receive.md R183, R42: from every state that meets the invariants, a step keeps that the cursor counts the bytes read
from `DAT` since the last `REQUEST`, capped at the allocated length, and that the cells below it are those bytes in order. -/
def Obligations.StepKeepsBufferEqualToBytesRead : Prop :=
  ∀ s t : State, s.Inv → s.BufferInv → step s = .next t → t.BufferInv

/-- 20_memory.md R62 ("no access is ever outside"): from every state that meets the invariant the machine goes on. In
`S_IDLE` with no command presented, where R220 has no step, the next state answered is the model's choice, the state
unchanged (log 7). -/
def Obligations.InvariantStepNeverStops : Prop := ∀ s : State, s.Inv → ∃ t, step s = .next t

/-- R60, R62: an access to an RXBUF cell at or above `2^LEN_W`, which does not exist, stops with the named fault. The stop is
the model's choice (log 15); no state of `State.Inv` shows it. -/
def Obligations.NonexistentCellStops : Prop :=
  (∀ (s : State) (n : Len), n < s.cursor → s.lenW.cells ≤ n.toNat → exec (.read n) s = .fault .rxBufOutOfRange) ∧
  (∀ s : State, s.cursor < s.allocLen → s.lenW.cells ≤ s.cursor.toNat → exec .sRxdRead s = .fault .rxBufOutOfRange)

/-! ## A step runs the decoded instruction -/

/-- R20, R220: where the state code of `fsm` decodes to `i`, a step with `rst` released is `exec i`. -/
def Obligations.StepRunsTheDecodedStateRow : Prop :=
  ∀ (s : State) (i : Instr), s.rst = false → decode s.lenW (.fsm s.fsm.code) = .ok i → step s = exec i s

/-- 40_commands_and_init.md R120, 45_sequencer.md R222: in `S_IDLE` the word on the port is decoded and run, after it left
the port. The model's choices: TXMEM becomes the word's data at acceptance (log 3; R78 samples it at use), and with no word
presented, where R222 has no step, a step that leaves the state unchanged (log 7). -/
def Obligations.IdleStepRunsTheDecodedCommand : Prop :=
  (∀ (s : State) (c : HostCmd) (q : List HostCmd) (i : Instr), s.rst = false → s.fsm = .idle → s.cmds = c :: q →
    decode s.lenW (.cmd c.word) = .ok i →
    step s = exec i { s with
      cmds := q, txMem := Memory.ofBytes c.data, trace := s.trace ++ [.cmd (CmdWord.onPort s.lenW c.word)] }) ∧
  (∀ s : State, s.rst = false → s.fsm = .idle → s.cmds = [] → step s = .next s)

/-- R226, 30_encoding.md R98: in `S_DISPATCH` the row that `(mode, stat_q)` decodes to is run, after the dispatch is
recorded. -/
def Obligations.DispatchStepRunsTheDecodedRow : Prop :=
  ∀ (s : State) (i : Instr), s.rst = false → s.fsm = .dispatch → s.statQ.getLsbD 0 = false → s.statQ.getLsbD 1 = false →
    s.statQ.getLsbD 2 = false → s.statQ ≠ 0xF8#8 → decode s.lenW (.stat s.mode s.statQ) = .ok i →
    step s = exec i { s with trace := s.trace ++ [.dispatch (classOf s.statQ)] }

/-- The host's placing of an opcode-table word (logs 6, 7): the next step runs the instruction it decodes to. -/
def Obligations.PlacedTableWordIsRun : Prop :=
  ∀ (s : State) (nbits w : Nat) (r : RawWord), s.lenW = .default8 → tableRawWord nbits w = some r →
    ∃ i, decodeTableWord nbits w = some i ∧
      match r with
      | .cmd x => step (s.withFetchWord nbits w) = exec i ((s.withFetchWord nbits w).accept ⟨x, []⟩ s.cmds)
      | .stat _ _ => step (s.withFetchWord nbits w) =
          if i = .noInfo then exec i ((s.withFetchWord nbits w).regRead .stat)
          else exec i ((s.withFetchWord nbits w).log (.dispatch (classOf (s.withFetchWord nbits w).statQ)))
      | .fsm _ => step (s.withFetchWord nbits w) = exec i (s.withFetchWord nbits w)
      | .prim _ _ => False

/-! ## Rules of the whole machine -/

/-- R200, R220, R221: a step performs the one register operation that the multiplexer emits for the sequencer state's
select and phase, or none, and nothing else at the register boundary. The queue of answers and the counter are the model's
form of the free inputs (logs 2, 18). -/
def Obligations.StepPerformsTheMultiplexersOperation : Prop :=
  ∀ s t : State, s.rst = false → step s = .next t →
    t.trace.filter Event.isRegOp =
      s.trace.filter Event.isRegOp ++ (s.regRequest.map (RegOp.event s.regRdata)).toList ∧
    t.tick = s.tick + s.regRequest.toList.length ∧
    t.reads = (match s.regRequest with | some (.read _) => s.reads.tail | some (.write _ _) => s.reads | none => s.reads)

/-- R221, R251: the only successors are the table's. `S_IDLE` without a command has no step (R222); in the model it is one
that leaves the state unchanged (log 7). -/
def Obligations.SuccessorsAreTheTables : Prop :=
  ∀ s t : State, s.rst = false → step s = .next t →
    t.fsm ∈ successorsOf s.fsm ∨ (s.fsm = .idle ∧ s.cmds = [] ∧ t = s)

/-- 30_encoding.md R97, 20_memory.md R61, 44_bus_primitives.md R205: the complete set of control register writes; no write
of `STAT`, no read of `CONCLR`, no clear of STOP. -/
def Obligations.ControlWritesAreTheListedSix : Prop :=
  ∀ s t : State, step s = .next t → ∃ evs, t.trace = s.trace ++ evs ∧
    (∀ r v, Event.regWrite r v ∈ evs → r = .dat ∨
      (r, v) ∈ [(RegName.conset, 0x20#8), (.conset, 0x10#8), (.conset, 0x04#8),
        (.conclr, 0x20#8), (.conclr, 0x08#8), (.conclr, 0x04#8)]) ∧
    (∀ r v, Event.regRead r v ∈ evs → r = .conset ∨ r = .stat ∨ r = .dat)

/-- 10_state.md R29: a fault bit is cleared only by reset, and a step sets each exactly where its rule says: RX_OVERRUN in
`S_RXD_READ` with `cursor` not below `alloc_len` (R182), UNCLASSIFIED in `S_DISPATCH` on a status with no row in the current
mode's table (R236), ILLEGAL_CMD at the acceptance of opcodes 5 to 7 (R127). No-new-state, which no dispatch meets (R145),
has no row either: that it takes the default arm is log 10. -/
def Obligations.FaultBitsAreStickyAndSetByTheirRules : Prop :=
  ∀ s t : State, s.rst = false → step s = .next t →
    s.fault &&& t.fault = s.fault ∧
    (t.fault.getLsbD 0 = true ↔ s.fault.getLsbD 0 = true ∨ (s.fsm = .rxdRead ∧ s.allocLen ≤ s.cursor)) ∧
    (t.fault.getLsbD 1 = true ↔ s.fault.getLsbD 1 = true ∨ (s.fsm = .dispatch ∧ s.statQ ∉ rowCodes s.mode)) ∧
    (t.fault.getLsbD 2 = true ↔ s.fault.getLsbD 2 = true ∨
      (s.fsm = .idle ∧ ∃ c q, s.cmds = c :: q ∧ 5 ≤ (CmdWord.op c.word).toNat))

/-- 10_state.md R30: `init_done` is set by `INIT` and cleared only by reset. -/
def Obligations.InitDoneIsSetByInitAlone : Prop :=
  ∀ s t : State, s.rst = false → step s = .next t →
    (t.initDone = true ↔ s.initDone = true ∨
      (s.fsm = .idle ∧ ∃ c q, s.cmds = c :: q ∧ (CmdWord.op c.word).toNat = 0))

/-- 10_state.md R21, R22, R23: `mode`, `addr_q` and `len_q` are written at the acceptance of `TRANSMIT` and `REQUEST` and by
nothing else. -/
def Obligations.ModeAddressLengthWrittenAtAcceptanceOnly : Prop :=
  ∀ s t : State, s.rst = false → step s = .next t →
    (t.mode = s.mode ∧ t.addrQ = s.addrQ ∧ t.lenQ = s.lenQ) ∨
    (s.fsm = .idle ∧ ∃ c q, s.cmds = c :: q ∧
      (((CmdWord.op c.word).toNat = 1 ∧ t.mode = .transmit) ∨ ((CmdWord.op c.word).toNat = 2 ∧ t.mode = .receive)))

/-- 43_receive.md R186, R181, R182, 10_state.md R25, R26, R31: the allocated length, the cursor and every cell change only
at the acceptance of a `REQUEST` (which leaves the cells) and by the store of `S_RXD_READ` (one cell, at the cursor), which
from every state of `State.Inv` is in a receive: so a `TRANSMIT` leaves them. -/
def Obligations.BufferChangesOnlyByRequestAndStore : Prop :=
  ∀ s t : State, s.rst = false → s.rxBuf.wf = true → step s = .next t →
    (t.allocLen = s.allocLen ∧ t.cursor = s.cursor ∧ t.rxBuf = s.rxBuf) ∨
    (s.fsm = .idle ∧ (∃ c q, s.cmds = c :: q ∧ (CmdWord.op c.word).toNat = 2 ∧
      t.allocLen = CmdWord.n s.lenW c.word ∧ t.cursor = 0#16 ∧ t.rxBuf = s.rxBuf)) ∨
    (s.fsm = .rxdRead ∧ (s.Inv → s.mode = .receive) ∧ s.cursor < s.allocLen ∧ t.allocLen = s.allocLen ∧
      t.cursor = s.cursor + 1#16 ∧
      ∀ i, t.rxBuf.read i = if i = s.cursor.toNat then some (lowByte s.regRdata) else s.rxBuf.read i)

/-- 41_status_decoder.md R141, R142, 10_state.md R36: of an environment's answer only bits `[7:3]` of a status read, bit 3
of a `CONSET` read and bits `[7:0]` of a `DAT` read have influence: two answers that agree there lead to the same state,
but for the record of the read. -/
def Obligations.OtherReadBitsHaveNoInfluence : Prop :=
  ∀ (s : State) (v w : RegWord) (q : List RegWord) (t : State), s.rst = false →
    ((s.fsm = .decStat ∧ ∀ i, 3 ≤ i → i < 8 → v.getLsbD i = w.getLsbD i) ∨
      (s.fsm = .decSi ∧ v.getLsbD 3 = w.getLsbD 3) ∨
      (s.fsm = .rxdRead ∧ ∀ i < 8, v.getLsbD i = w.getLsbD i)) →
    step { s with reads := v :: q } = .next t →
    ∃ u, step { s with reads := w :: q } = .next u ∧ u.sansTrace = t.sansTrace

/-- 42_transmit.md R162 (d), 60_exceptions.md R268: a dispatch that ends the transaction leaves a nonzero response only for
arbitration lost and for the default arm. The default arm shows by a status without a row, its fault bit and the raw code,
with no event but the dispatch (R160, R179). No-new-state, which no dispatch meets, takes it by log 10. -/
def Obligations.NonzeroResponseOnlyOnLossOrDefault : Prop :=
  ∀ s t : State, s.rst = false → s.fsm = .dispatch → step s = .next t → (t.fsm = .ret ∨ t.fsm = .stopSto) →
    t.result ≠ 0x0000#16 →
    s.statQ = 0x38#8 ∨ (s.statQ ∉ rowCodes s.mode ∧ t.fault.getLsbD 1 = true ∧ t.result = s.statQ.setWidth 16 ∧ t.fsm = .ret ∧
      t.trace = s.trace ++ [.dispatch (classOf s.statQ)])

/-! ## Commands -/

/-- 40_commands_and_init.md R124: `INIT`. No register operation; nothing else changes. That the platform sequence is one
event is log 12, that the control image stays as it was log 22. -/
def Obligations.InitRunsThePlatformSequence : Prop :=
  ∀ s : State, exec .init s = .next { s with
    initDone := true, result := 0x0000#16, fsm := .ret, trace := s.trace ++ [.initSeq] }

/-- R128, 42_transmit.md R150: the acceptance of `TRANSMIT`; the receive buffer, `alloc_len` and `cursor` keep their value. -/
def Obligations.TransmitLatchesItsOperands : Prop :=
  ∀ (s : State) (a : Addr) (n : Len), ∃ t, exec (.transmit a n) s = .next t ∧
    t.mode = .transmit ∧ t.addrQ = a ∧ t.lenQ = n ∧ t.txIdx = 0#16 ∧ t.fsm = .start ∧
    t = { s with mode := t.mode, addrQ := t.addrQ, lenQ := t.lenQ, txIdx := t.txIdx, fsm := t.fsm }

/-- R128, 43_receive.md R170, R181: the acceptance of `REQUEST`; `tx_idx` and every cell of RXBUF keep their value. -/
def Obligations.RequestReplacesTheBuffer : Prop :=
  ∀ (s : State) (a : Addr) (n : Len), ∃ t, exec (.request a n) s = .next t ∧
    t.mode = .receive ∧ t.addrQ = a ∧ t.lenQ = n ∧ t.allocLen = n ∧ t.cursor = 0#16 ∧ t.fsm = .start ∧
    t = { s with mode := t.mode, addrQ := t.addrQ, lenQ := t.lenQ, allocLen := t.allocLen, cursor := t.cursor, fsm := t.fsm }

/-- 43_receive.md R184: `AVAILABLE` answers the cursor; no state changed but `result` and `fsm`. -/
def Obligations.AvailableAnswersTheCursor : Prop :=
  ∀ s : State, ∃ t, exec .available s = .next t ∧ t.result.toNat = s.cursor.toNat ∧ t.fsm = .ret ∧
    t = { s with result := t.result, fsm := t.fsm }

/-- R185: `READ` answers the stored byte below the cursor and the sentinel at and above it; no state changed but `result`
and `fsm`. -/
def Obligations.ReadAnswersStoredByteOrSentinel : Prop :=
  ∀ (s : State) (n : Len), (Instr.read n).wellFormed s.lenW = true → ∃ t, exec (.read n) s = .next t ∧ t.fsm = .ret ∧
    (∀ b, n < s.cursor → s.rxBuf.read n.toNat = some b → t.result.toNat = b.toNat) ∧
    (s.cursor ≤ n → t.result = 0x0000#16) ∧
    t = { s with result := t.result, fsm := t.fsm }

/-- R127: the reserved opcodes set the sticky bit, answer 0, and change nothing else. -/
def Obligations.ReservedOpcodesSetIllegalCmd : Prop :=
  ∀ (s : State) (i : Instr), i = .reserved5 ∨ i = .reserved6 ∨ i = .reserved7 →
    exec i s = .next { s with
      fault := s.fault ||| 0b100#3, result := 0x0000#16, fsm := .ret }

/-! ## Bus primitives -/

/-- 44_bus_primitives.md R202, R203, R205, R206, R207, R212, 20_memory.md R70: each single control primitive writes its one
mask, and changes exactly that control bit. -/
def Obligations.ControlPrimitivesWriteOneMask : Prop :=
  ∀ (s : State) (i : Instr) (r : RegName) (v : Byte),
    (i, r, v) ∈ [(Instr.pStartSet, RegName.conset, 0x20#8), (.pStartClr, .conclr, 0x20#8), (.pStopClr, .conclr, 0x10#8),
      (.pAckSet, .conset, 0x04#8), (.pAckClr, .conclr, 0x04#8), (.pSiClr, .conclr, 0x08#8)] →
    ∃ t, exec i s = .next t ∧ t.trace = s.trace ++ [.regWrite r v] ∧
      (∀ k < 8, t.ctl.getLsbD k = if v.getLsbD k = true then decide (r = .conset) else s.ctl.getLsbD k) ∧
      t = { s with ctl := t.ctl, tick := s.tick + 1, trace := t.trace }

/-- R204, R208, R210, R95: the compound primitives, each half by its phase. Where the host placed no byte at `tx_idx` the
byte written is a value nothing constrains (log 4). -/
def Obligations.CompoundPrimitivesWriteInOrder : Prop :=
  ∀ s : State,
    (exec (.pStopSet .first) s = .next { s with
      ctl := s.ctl ||| 0x10#8, tick := s.tick + 1, trace := s.trace ++ [.regWrite .conset 0x10#8] }) ∧
    (exec (.pStopSet .second) s = .next { s with
      ctl := s.ctl &&& 0xF7#8, tick := s.tick + 1, trace := s.trace ++ [.regWrite .conclr 0x08#8] }) ∧
    (exec (.pAddrLoad .first) s = .next { s with
      tick := s.tick + 1,
      trace := s.trace ++ [.regWrite .dat (BitVec.ofNat 8 (2 * s.addrQ.toNat + if s.mode = .receive then 1 else 0))] }) ∧
    (exec (.pAddrLoad .second) s = .next { s with
      ctl := s.ctl ||| 0x04#8, tick := s.tick + 1, trace := s.trace ++ [.regWrite .conset 0x04#8] }) ∧
    (∀ b, s.txMem.read s.txIdx.toNat = some b → exec (.pDataWrite .first) s = .next { s with
      tick := s.tick + 1, trace := s.trace ++ [.regWrite .dat b] }) ∧
    (∃ b, exec (.pDataWrite .first) s = .next { s with
      tick := s.tick + 1, trace := s.trace ++ [.regWrite .dat b] }) ∧
    (exec (.pDataWrite .second) s = .next { s with
      ctl := s.ctl ||| 0x04#8, tick := s.tick + 1, trace := s.trace ++ [.regWrite .conset 0x04#8] })

/-- R209, R211, R213: each read primitive is one read, of its register; the answer is the environment's. -/
def Obligations.ReadPrimitivesReadOnce : Prop :=
  ∀ (s : State) (v : RegWord) (q : List RegWord), s.reads = v :: q →
    ∀ (i : Instr) (r : RegName), (i, r) ∈ [(Instr.pDataRead, RegName.dat), (.pSiWait, .conset), (.pStatRead, .stat)] →
      exec i s = .next { s with reads := q, tick := s.tick + 1, trace := s.trace ++ [.regRead r v] }

/-- The same reads where no answer is queued (20_memory.md R74: "the step relation holds for every 32-bit value"): they
complete with some value, which nothing constrains (log 2). -/
def Obligations.ReadPrimitivesCompleteOnAFreeAnswer : Prop :=
  ∀ s : State, s.reads = [] →
    ∀ (i : Instr) (r : RegName), (i, r) ∈ [(Instr.pDataRead, RegName.dat), (.pSiWait, .conset), (.pStatRead, .stat)] →
      ∃ v, exec i s = .next { s with tick := s.tick + 1, trace := s.trace ++ [.regRead r v] }

/-- R201, R216: `P_NONE` and the reserved selects emit no operation. -/
def Obligations.EmptySelectsDoNothing : Prop :=
  ∀ (s : State) (i : Instr), i ∈ [Instr.pNone, .pReserved13, .pReserved14, .pReserved15] → exec i s = .next s

/-! ## Dispatch rows -/

/-- 42_transmit.md R151, R152, 43_receive.md R171, R172, 45_sequencer.md R226: the start rows lead to the address load. -/
def Obligations.StartRowsLoadTheAddress : Prop :=
  ∀ (s : State) (i : Instr), i ∈ [Instr.txStart, .txRstart, .rxStart, .rxRstart] →
    exec i s = .next { s with fsm := .addrDat }

/-- R153, R154, R226: the acknowledged rows of a transmit. -/
def Obligations.AckedRowsLoadOrStop : Prop :=
  ∀ (s : State) (i : Instr), i ∈ [Instr.txSlawAck, .txDatwAck] →
    (s.txIdx.toNat < s.lenQ.toNat → exec i s = .next { s with fsm := .txdDat }) ∧
    (s.lenQ.toNat ≤ s.txIdx.toNat → exec i s = .next { s with result := 0x0000#16, fsm := .stopSto })

/-- R155, R156, R175, R158, R264: a NACK by the target is a normal end: success and STOP. -/
def Obligations.NackedRowsStopWithSuccess : Prop :=
  ∀ (s : State) (i : Instr), i ∈ [Instr.txSlawNack, .txDatwNack, .rxSlarNack] →
    exec i s = .next { s with result := 0x0000#16, fsm := .stopSto }

/-- R157, R173, R262: arbitration lost returns the raw code without STOP. R159, R178, R263: bus error returns it with STOP. -/
def Obligations.FailureRowsReturnTheRawCode : Prop :=
  ∀ (s : State) (i : Instr),
    (i ∈ [Instr.txArbLost, .rxArbLost] →
      exec i s = .next { s with result := s.statQ.setWidth 16, fsm := .ret }) ∧
    (i ∈ [Instr.txBusError, .rxBusError] →
      exec i s = .next { s with result := s.statQ.setWidth 16, fsm := .stopSto })

/-- R174, R176, R177, R226: address+R acknowledged asserts ACK whatever the allocated length; the data rows read the byte. -/
def Obligations.ReceiveRowsAckOrRead : Prop :=
  ∀ s : State, exec .rxSlarAck s = .next { s with fsm := .ackSet } ∧
    exec .rxDatrAck s = .next { s with fsm := .rxdRead } ∧ exec .rxDatrNack s = .next { s with fsm := .rxdRead }

/-- R160, R179, R236: the default arm, for the other direction's statuses and for every code outside the thirteen: the
sticky bit, the raw code, no STOP, no flag clear, and nothing else. -/
def Obligations.DefaultRowsFailLoudly : Prop :=
  ∀ (s : State) (i : Instr), i ∈ [Instr.txDefaultSlarAck, .txDefaultSlarNack, .txDefaultDatrAck, .txDefaultDatrNack,
      .rxDefaultSlawAck, .rxDefaultSlawNack, .rxDefaultDatwAck, .rxDefaultDatwNack,
      .unclassified60, .unclassified68, .unclassified70, .unclassified78, .unclassified80, .unclassified88,
      .unclassified90, .unclassified98, .unclassifiedA0, .unclassifiedA8, .unclassifiedB0, .unclassifiedB8,
      .unclassifiedC0, .unclassifiedC8, .unclassifiedD0, .unclassifiedD8, .unclassifiedE0, .unclassifiedE8,
      .unclassifiedF0] →
    exec i s = .next { s with
      fault := s.fault ||| 0b010#3, result := s.statQ.setWidth 16, fsm := .ret }

/-- R141: on no-new-state the decoder polls again and latches nothing. -/
def Obligations.NoInfoPollsAgain : Prop := ∀ s : State, exec .noInfo s = .next { s with fsm := .decStat }

/-! ## Sequencer states -/

/-- R222, R128: `S_IDLE` always answers: with no command the state is unchanged; with one, it leaves the port, no register
operation is performed, and `fsm` goes to `S_START` for a transaction and to `S_RETURN` else. The model's choices: the step
without a command (log 7; R222 has none there), TXMEM as the word's data from acceptance on (log 3; R78 samples it at
use), and that `INIT` too leaves the control image (log 22; R291 assumes the bits clear after it). -/
def Obligations.IdleAcceptsEveryWord : Prop :=
  (∀ s : State, s.cmds = [] → exec .sIdle s = .next s) ∧
  (∀ (s : State) (c : HostCmd) (q : List HostCmd), s.cmds = c :: q → ∃ t, exec .sIdle s = .next t ∧
    t.cmds = q ∧ t.txMem = Memory.ofBytes c.data ∧
    t.fsm = (if (CmdWord.op c.word).toNat = 1 ∨ (CmdWord.op c.word).toNat = 2 then .start else .ret) ∧
    t.trace.filter Event.isRegOp = s.trace.filter Event.isRegOp ∧
    t.lenW = s.lenW ∧ t.statQ = s.statQ ∧ t.rxBuf = s.rxBuf ∧ t.ctl = s.ctl ∧ t.rst = s.rst ∧ t.reads = s.reads ∧
    t.tick = s.tick)

/-- R226, R236: the whole case of the dispatch step, by the status code and the mode. -/
def Obligations.DispatchFollowsTheTables : Prop :=
  ∀ s : State, s.statQ ≠ 0xF8#8 → ∃ t, exec .sDispatch s = .next t ∧
    (s.statQ ∈ [0x08#8, 0x10#8] → t.fsm = .addrDat ∧ t.result = s.result ∧ t.fault = s.fault) ∧
    (s.statQ = 0x38#8 → t.fsm = .ret ∧ t.result = 0x0038#16 ∧ t.fault = s.fault) ∧
    (s.statQ = 0x00#8 → t.fsm = .stopSto ∧ t.result = 0x0000#16 ∧ t.fault = s.fault) ∧
    (s.mode = .transmit → s.statQ ∈ [0x18#8, 0x28#8] → s.txIdx < s.lenQ →
      t.fsm = .txdDat ∧ t.result = s.result ∧ t.fault = s.fault) ∧
    (s.mode = .transmit → s.statQ ∈ [0x18#8, 0x28#8] → ¬ s.txIdx < s.lenQ →
      t.fsm = .stopSto ∧ t.result = 0x0000#16 ∧ t.fault = s.fault) ∧
    (s.mode = .transmit → s.statQ ∈ [0x20#8, 0x30#8] → t.fsm = .stopSto ∧ t.result = 0x0000#16 ∧ t.fault = s.fault) ∧
    (s.mode = .receive → s.statQ = 0x40#8 → t.fsm = .ackSet ∧ t.result = s.result ∧ t.fault = s.fault) ∧
    (s.mode = .receive → s.statQ = 0x48#8 → t.fsm = .stopSto ∧ t.result = 0x0000#16 ∧ t.fault = s.fault) ∧
    (s.mode = .receive → s.statQ ∈ [0x50#8, 0x58#8] → t.fsm = .rxdRead ∧ t.result = s.result ∧ t.fault = s.fault) ∧
    ((s.mode = .transmit ∧ s.statQ ∈ [0x40#8, 0x48#8, 0x50#8, 0x58#8]) ∨
      (s.mode = .receive ∧ s.statQ ∈ [0x18#8, 0x20#8, 0x28#8, 0x30#8]) ∨
      s.statQ ∉ [0x00#8, 0x08#8, 0x10#8, 0x18#8, 0x20#8, 0x28#8, 0x30#8, 0x38#8, 0x40#8, 0x48#8, 0x50#8, 0x58#8] →
      t.fsm = .ret ∧ t.result = s.statQ.setWidth 16 ∧ t.fault = s.fault ||| 0b010#3) ∧
    t.trace.filter Event.isRegOp = s.trace.filter Event.isRegOp ∧
    t = { s with fsm := t.fsm, result := t.result, fault := t.fault, trace := t.trace }

/-- R223, R229, R231, R233, R234, R235, R237, R238: the states that write one control mask and go on. -/
def Obligations.SingleWriteStatesWriteAndGoOn : Prop :=
  ∀ (s : State) (i : Instr) (r : RegName) (v : Byte) (f : SeqState),
    (i, r, v, f) ∈ [(Instr.sStart, RegName.conset, 0x20#8, SeqState.decStat), (.sStaClr, .conclr, 0x20#8, .siClr),
      (.sTxdAa, .conset, 0x04#8, .siClr), (.sAckSet, .conset, 0x04#8, .siClr), (.sAckClr, .conclr, 0x04#8, .siClr),
      (.sSiClr, .conclr, 0x08#8, .decStat), (.sStopSto, .conset, 0x10#8, .stopSi), (.sStopSi, .conclr, 0x08#8, .ret)] →
    exec i s = .next { s with
      fsm := f, ctl := (if r = .conset then s.ctl ||| v else s.ctl &&& ~~~v), tick := s.tick + 1,
      trace := s.trace ++ [.regWrite r v] }

/-- R227, R228, 30_encoding.md R101: the address byte `2 * addr_q + mode`, then ACK-enable; only a transmit goes on to the
clear of START. -/
def Obligations.AddressStatesLoadTheByte : Prop :=
  ∀ s : State,
    (∃ b : Byte, b.toNat = 2 * s.addrQ.toNat + (if s.mode = .receive then 1 else 0) ∧
      exec .sAddrDat s = .next { s with
        fsm := .addrAa, tick := s.tick + 1, trace := s.trace ++ [.regWrite .dat b] }) ∧
    exec .sAddrAa s = .next { s with
      fsm := (if s.mode = .transmit then .staClr else .siClr), ctl := s.ctl ||| 0x04#8, tick := s.tick + 1,
      trace := s.trace ++ [.regWrite .conset 0x04#8] }

/-- R230, 20_memory.md R63: the byte at `tx_idx` is written and the index incremented, in one step; where the host placed
no byte there, some byte that nothing constrains (log 4). -/
def Obligations.TransmitDataStateSendsTheIndexedByte : Prop :=
  (∀ (s : State) (b : Byte), s.txMem.read s.txIdx.toNat = some b → exec .sTxdDat s = .next { s with
    fsm := .txdAa, txIdx := s.txIdx + 1#16, tick := s.tick + 1, trace := s.trace ++ [.regWrite .dat b] }) ∧
  (∀ s : State, ∃ b, exec .sTxdDat s = .next { s with
    fsm := .txdAa, txIdx := s.txIdx + 1#16, tick := s.tick + 1, trace := s.trace ++ [.regWrite .dat b] })

/-- 41_status_decoder.md R141, R224: phase 1 of the decoder: poll again on no-new-state, else latch the masked status. -/
def Obligations.DecoderPhaseOneLatchesOrPolls : Prop :=
  ∀ (s : State) (v : RegWord), s.regRdata = v →
    (v.setWidth 8 &&& 0xF8#8 = 0xF8#8 → exec .sDecStat s = .next { s with
      fsm := .decStat, reads := s.reads.tail, tick := s.tick + 1, trace := s.trace ++ [.regRead .stat v] }) ∧
    (v.setWidth 8 &&& 0xF8#8 ≠ 0xF8#8 → exec .sDecStat s = .next { s with
      fsm := .decSi, statQ := v.setWidth 8 &&& 0xF8#8, reads := s.reads.tail, tick := s.tick + 1,
      trace := s.trace ++ [.regRead .stat v] })

/-- R142, R143, R225: phase 2 of the decoder: one poll of bit 3; the latched status is kept. -/
def Obligations.DecoderPhaseTwoPollsTheFlag : Prop :=
  ∀ (s : State) (c : RegWord), s.regRdata = c → exec .sDecSi s = .next { s with
    fsm := (if c.getLsbD 3 = true then .dispatch else .decSi), reads := s.reads.tail, tick := s.tick + 1,
    trace := s.trace ++ [.regRead .conset c] }

/-- R232, R182, R176, R177: one read of `DAT`, the guarded store (every other cell reads as before), then the ack choice on
the updated cursor, or STOP and success. That a dropped byte records the `FAULT` event is log 8 (R15, V12). -/
def Obligations.ReceiveStateStoresAndChooses : Prop :=
  ∀ s : State, s.rxBuf.wf = true → (s.cursor < s.allocLen → s.cursor.toNat < s.lenW.cells) →
    ∃ t, exec .sRxdRead s = .next t ∧
    (s.cursor < s.allocLen → t.cursor.toNat = s.cursor.toNat + 1 ∧ t.fault = s.fault ∧
      t.trace = s.trace ++ [.regRead .dat s.regRdata] ∧
      ∀ i, t.rxBuf.read i = if i = s.cursor.toNat then some (s.regRdata.setWidth 8) else s.rxBuf.read i) ∧
    (¬ s.cursor < s.allocLen → t.cursor = s.cursor ∧ t.fault = s.fault ||| 0b001#3 ∧
      t.trace = s.trace ++ [.regRead .dat s.regRdata, .faultSet .rxOverrun] ∧ t.rxBuf = s.rxBuf) ∧
    (s.statQ = 0x50#8 → t.result = s.result ∧ t.fsm = if t.cursor < s.allocLen then .ackSet else .ackClr) ∧
    (s.statQ ≠ 0x50#8 → t.result = 0x0000#16 ∧ t.fsm = .stopSto) ∧
    t = { s with
      fsm := t.fsm, result := t.result, fault := t.fault, cursor := t.cursor, rxBuf := t.rxBuf,
      reads := s.reads.tail, tick := s.tick + 1, trace := t.trace }

/-- R250, R122, 10_state.md R40: the response is `result`, valid in `S_RETURN`; the CORE goes idle. -/
def Obligations.ReturnAnswersTheResult : Prop :=
  ∀ s : State, exec .sReturn s = .next { s with fsm := .idle, trace := s.trace ++ [.rsp s.result] } ∧
    (s.rspValid = true ↔ s.fsm = .ret) ∧ (s.fsm = .ret → s.rspData = some s.result) ∧
    (s.cmdReady = true ↔ s.fsm = .idle) ∧ (s.busy = true ↔ s.fsm ≠ .idle)

/-! ## Encodings -/

/-- R90, R91, R95, R99, R102: decoding the encoding of every well-formed instruction gives it back, for every width; a
status of either mode also from the receive table. -/
def Obligations.DecodeOfEncodeIsTheInstruction : Prop :=
  ∀ (L : LenW) (i : Instr), i.wellFormed L = true → decode L (encode i) = .ok i ∧
    (∀ b, encode i = .stat .transmit b → (0x60#8 ≤ b) → decode L (.stat .receive b) = .ok i)

/-- What is decoded is well-formed, and the words that are no instruction are exactly the unused state codes (R102) and the
second phase of a simple primitive (R215; log 14). -/
def Obligations.DecodeGivesWellFormedOrRejects : Prop :=
  (∀ (L : LenW) (r : RawWord) (i : Instr), decode L r = .ok i → i.wellFormed L = true) ∧
  (∀ (L : LenW) (w : BitVec 32), ∃ i, decode L (.cmd w) = .ok i) ∧
  (∀ (L : LenW) (m : Mode) (b : Byte), ∃ i, decode L (.stat m b) = .ok i) ∧
  (∀ (L : LenW) (c : BitVec 5), decode L (.fsm c) = .error .unusedStateCode ↔ 17 ≤ c.toNat) ∧
  (∀ (L : LenW) (p : BitVec 4) (ph : Phase), decode L (.prim p ph) = .error .phaseOfSimplePrimitive ↔
    ph = .second ∧ p.toNat ∈ [1, 2, 4, 5, 6, 9, 10, 11, 12])

/-- R93: reserved bits of the command word, operand fields a command does not use, and bits above the port have no
influence. -/
def Obligations.UnusedCommandBitsAreIgnored : Prop :=
  ∀ (L : LenW) (w x : BitVec 32),
    decodeCmd L (w ^^^ (x &&& 0x000080F8#32)) = decodeCmd L w ∧
    decodeCmd L (CmdWord.onPort L w) = decodeCmd L w ∧
    ((CmdWord.op w).toNat ∉ [1, 2] → decodeCmd L (w ^^^ (x &&& 0x00007F00#32)) = decodeCmd L w) ∧
    ((CmdWord.op w).toNat ∉ [1, 2, 4] → decodeCmd L (w ^^^ (x &&& 0xFFFF0000#32)) = decodeCmd L w)

/-- Words written out from the spec's encodings (R106, 95_test_vectors.md, R95, R99, R102). -/
def Obligations.WrittenOutWordsDecode : Prop :=
  decode .default8 (.cmd 0x035002#32) = .ok (.request 0x50#7 3#16) ∧
  decode .default8 (.cmd 0x03D0FA#32) = .ok (.request 0x50#7 3#16) ∧
  decode .default8 (.cmd 0xFF7F01#32) = .ok (.transmit 0x7F#7 255#16) ∧
  decode .default8 (.cmd 0x010004#32) = .ok (.read 1#16) ∧
  decode .default8 (.cmd 0xABCD03#32) = .ok .available ∧
  decode .default8 (.prim 7#4 .second) = .ok (.pAddrLoad .second) ∧
  decode .default8 (.stat .transmit 0x45#8) = .ok .txDefaultSlarAck ∧
  decode .default8 (.stat .receive 0x45#8) = .ok .rxSlarAck ∧
  decode .default8 (.fsm 16#5) = .ok .sReturn

/-- R100, R12: the classification, total on 8-bit values; the thirteen codes are distinct and survive the mask. -/
def Obligations.ClassificationIsTheTable : Prop :=
  (∀ b : Byte, classOf b ≠ .unclassified ↔ b ∈ [0x00#8, 0x08#8, 0x10#8, 0x18#8, 0x20#8, 0x28#8, 0x30#8, 0x38#8, 0x40#8,
    0x48#8, 0x50#8, 0x58#8, 0xF8#8]) ∧
  ([Config.stBusError, Config.stStart, Config.stRstart, Config.stSlawAck, Config.stSlawNack, Config.stDatwAck,
    Config.stDatwNack, Config.stArbLost, Config.stSlarAck, Config.stSlarNack, Config.stDatrAck, Config.stDatrNack,
    Config.stNoInfo].map classOf = [.busError, .start, .rstart, .slawAck, .slawNack, .datwAck, .datwNack, .arbLost,
    .slarAck, .slarNack, .datrAck, .datrNack, .noInfo]) ∧
  (∀ b : Byte, classOf b ≠ .unclassified → maskStatus b = b)

/-! ## Runs -/

/-- R140, R147: the decoder as a whole: any number of polls that show no-new-state, then a status, then any number of
polls with the flag low, then the flag: the dispatch state with that status masked, every poll a read, nothing else. -/
def Obligations.DecoderWaitsInTwoPhases : Prop :=
  ∀ (s : State) (polls flags : List RegWord) (v c : RegWord) (rest : List RegWord), s.rst = false → s.fsm = .decStat →
    (∀ p ∈ polls, p.setWidth 8 &&& 0xF8#8 = 0xF8#8) → v.setWidth 8 &&& 0xF8#8 ≠ 0xF8#8 →
    (∀ f ∈ flags, f.getLsbD 3 = false) → c.getLsbD 3 = true →
    s.reads = polls ++ v :: (flags ++ c :: rest) →
    stepN (polls.length + 1 + flags.length + 1) s = .next { s with
      fsm := .dispatch, statQ := v.setWidth 8 &&& 0xF8#8, reads := rest, tick := s.tick + (polls.length + flags.length + 2),
      trace := s.trace ++ polls.map (Event.regRead .stat) ++ [.regRead .stat v] ++ flags.map (Event.regRead .conset) ++
        [.regRead .conset c] }

/-- R146, R266: the Hang: as long as the environment shows no status, or then no flag, the run stays in the polling state,
each poll a read. -/
def Obligations.DecoderHangsWithoutStatusOrFlag : Prop :=
  ∀ (s : State) (polls rest : List RegWord), s.rst = false → s.reads = polls ++ rest →
    (s.fsm = .decStat → (∀ p ∈ polls, p.setWidth 8 &&& 0xF8#8 = 0xF8#8) →
      stepN polls.length s = .next { s with
        reads := rest, tick := s.tick + polls.length, trace := s.trace ++ polls.map (Event.regRead .stat) }) ∧
    (s.fsm = .decSi → (∀ p ∈ polls, p.getLsbD 3 = false) →
      stepN polls.length s = .next { s with
        reads := rest, tick := s.tick + polls.length, trace := s.trace ++ polls.map (Event.regRead .conset) })

/-- R151, R152, R171, R172, R161, R180: the start rows to their end: a transmit clears START, a receive does not. -/
def Obligations.StartRowsToTheirEnd : Prop :=
  ∀ s : State, s.rst = false → s.fsm = .dispatch → (s.statQ = 0x08#8 ∨ s.statQ = 0x10#8) →
    (s.mode = .transmit → stepN 5 s = .next { s with
      fsm := .decStat, ctl := (s.ctl ||| 0x04#8) &&& 0xD7#8, tick := s.tick + 4,
      trace := s.trace ++ [.dispatch (classOf s.statQ), .regWrite .dat (slaByte s.addrQ .transmit),
        .regWrite .conset 0x04#8, .regWrite .conclr 0x20#8, .regWrite .conclr 0x08#8] }) ∧
    (s.mode = .receive → stepN 4 s = .next { s with
      fsm := .decStat, ctl := (s.ctl ||| 0x04#8) &&& 0xF7#8, tick := s.tick + 3,
      trace := s.trace ++ [.dispatch (classOf s.statQ), .regWrite .dat (slaByte s.addrQ .receive),
        .regWrite .conset 0x04#8, .regWrite .conclr 0x08#8] })

/-- R204, R162 (c), R306: from the stop state: STOP, then the flag clear, then the response, and idle. -/
def Obligations.StopThenFlagClearThenResponse : Prop :=
  ∀ s : State, s.rst = false → s.fsm = .stopSto → stepN 3 s = .next { s with
    fsm := .idle, ctl := (s.ctl ||| 0x10#8) &&& 0xF7#8, tick := s.tick + 2,
    trace := s.trace ++ [.regWrite .conset 0x10#8, .regWrite .conclr 0x08#8, .rsp s.result] }

/-- R262: arbitration lost, at any point of either transaction, ends it at once with the code, without STOP and without a
flag clear; nothing else changes. -/
def Obligations.ArbitrationLossAbortsAtOnce : Prop :=
  ∀ s : State, s.rst = false → s.fsm = .dispatch → s.statQ = 0x38#8 → stepN 2 s = .next { s with
    fsm := .idle, result := 0x0038#16, trace := s.trace ++ [.dispatch .arbLost, .rsp 0x0038#16] }

/-- R302: after an arbitration loss the next transaction, `TRANSMIT` or `REQUEST`, finds the stale status and flag, if the
environment still shows them, and answers the same code having only asserted START. -/
def Obligations.StaleStatusEndsTheNextCommand : Prop :=
  ∀ (s : State) (o : BitVec 3) (a : Addr) (n : Len) (d : List Byte) (q : List HostCmd) (rest : List RegWord),
    s.rst = false → s.fsm = .idle → (o = 1#3 ∨ o = 2#3) → s.cmds = ⟨CmdWord.mk o a n, d⟩ :: q →
    s.reads = decodeReads 0x38#8 ++ rest →
    ∃ t, stepN 6 s = .next t ∧ t.fsm = .idle ∧ t.result = 0x0038#16 ∧ t.fault = s.fault ∧ t.reads = rest ∧ t.cmds = q ∧
      (o = 1#3 → t.mode = .transmit ∧ t.txIdx = 0#16) ∧ (o = 2#3 → t.mode = .receive ∧ t.cursor = 0#16) ∧
      t.trace.filter Event.isRegOp = s.trace.filter Event.isRegOp ++
        [.regWrite .conset 0x20#8, .regRead .stat 0x38#32, .regRead .conset 0x08#32]

/-- R154, R162 (a) to (c), the source's property X4: a transmit of any length that the target acknowledges throughout
answers `0x00`, sends the address byte and then every byte in order, and issues STOP after them and only then. That the
host's data stands in TXMEM from acceptance to the response is log 3 (R78: the host's duty). -/
def Obligations.AckedTransmitSendsEveryByteThenStops : Prop :=
  ∀ (s : State) (a : Addr) (data : List Byte) (q : List HostCmd) (rest : List RegWord),
    s.rst = false → s.fsm = .idle → data.length < s.lenW.cells →
    s.cmds = ⟨CmdWord.mk 1#3 a (BitVec.ofNat 16 data.length), data⟩ :: q →
    s.reads = transmitAckedReads data.length ++ rest →
    ∃ k t pre, stepN k s = .next t ∧ t.fsm = .idle ∧ t.result = 0x0000#16 ∧ t.fault = s.fault ∧
      t.txIdx.toNat = data.length ∧ t.reads = rest ∧ t.cmds = q ∧
      t.rxBuf = s.rxBuf ∧ t.cursor = s.cursor ∧ t.allocLen = s.allocLen ∧
      t.trace = s.trace ++ pre ++ [.regWrite .conset 0x10#8, .regWrite .conclr 0x08#8, .rsp 0x0000#16] ∧
      pre.filterMap Event.datWrite = slaByte a .transmit :: data ∧
      Event.regWrite .conset 0x10#8 ∉ pre

/-- R187 (a), R183, the source's property X1: a receive of any length `L ≥ 1` whose data statuses are ack for every byte
but the last and nack for the last answers `0x00`; then `AVAILABLE` answers `L` and `READ i` the `i`-th byte. -/
def Obligations.SuccessfulRequestReturnsTheBytes : Prop :=
  ∀ (s : State) (a : Addr) (front : List Byte) (last : Byte) (d : List Byte) (q : List HostCmd) (rest : List RegWord),
    s.rst = false → s.fsm = .idle → s.rxBuf.wf = true → front.length + 1 < s.lenW.cells →
    s.cmds = ⟨CmdWord.mk 2#3 a (BitVec.ofNat 16 (front.length + 1)), d⟩ :: q →
    s.reads = requestReads front last ++ rest →
    ∃ k t, stepN k s = .next t ∧ t.fsm = .idle ∧ t.result = 0x0000#16 ∧ t.fault = s.fault ∧ t.reads = rest ∧
      t.cmds = q ∧ t.trace.getLast? = some (.rsp 0x0000#16) ∧
      (∃ u, exec .available t = .next u ∧ u.result.toNat = front.length + 1) ∧
      (∀ (i : Len) (b : Byte), (front ++ [last])[i.toNat]? = some b →
        ∃ u, exec (.read i) t = .next u ∧ u.result = b.setWidth 16) ∧
      (∀ i : Len, front.length + 1 ≤ i.toNat → ∃ u, exec (.read i) t = .next u ∧ u.result = 0x0000#16)
end

