-- ==== Sys2Proof/Laws/Decode.lean ====
section
/-! SUPPORT. The fields of command words, and the bounds the decoder keeps. -/

namespace Sys2Proof

theorem LenW.fits_iff (L : LenW) (n : Len) : L.fits n = true ↔ n.toNat < L.cells := by simp [LenW.fits]

theorem LenW.cells_le (L : LenW) : L.cells ≤ 65536 :=
  Nat.pow_le_pow_right (by decide) L.max

theorem LenW.cells_pos (L : LenW) : 0 < L.cells := Nat.two_pow_pos _

namespace CmdWord

/-- The decoded `n` is a `LEN_W`-bit value (R92). -/
theorem n_lt (L : LenW) (w : BitVec 32) : (n L w).toNat < L.cells := by
  have h := (w.extractLsb' 16 L.val).isLt
  rw [n, BitVec.toNat_setWidth]
  exact Nat.lt_of_le_of_lt (Nat.mod_le _ _) h

@[simp] theorem op_mk (o : BitVec 3) (a : Addr) (k : Len) : op (mk o a k) = o := by
  apply BitVec.eq_of_getLsbD_eq
  intro i hi
  simp only [op, mk, BitVec.getLsbD_extractLsb', BitVec.getLsbD_append]
  simp only [Nat.zero_add, hi, if_true, decide_true, Bool.true_and]

@[simp] theorem addr_mk (o : BitVec 3) (a : Addr) (k : Len) : addr (mk o a k) = a := by
  apply BitVec.eq_of_getLsbD_eq
  intro i hi
  simp only [addr, mk, BitVec.getLsbD_extractLsb', BitVec.getLsbD_append]
  simp only [show ¬ 8 + i < 3 by omega, show ¬ 8 + i - 3 < 5 by omega, show 8 + i - 3 - 5 = i by omega, hi,
    if_true, if_false, decide_true, Bool.true_and]

/-- The decoded `n` of an encoded command is the operand, where it fits `LEN_W` bits. -/
theorem n_mk (L : LenW) (o : BitVec 3) (a : Addr) (k : Len) (h : k.toNat < L.cells) : n L (mk o a k) = k := by
  apply BitVec.eq_of_getLsbD_eq
  intro i hi
  simp only [n, mk, BitVec.getLsbD_setWidth, BitVec.getLsbD_extractLsb', BitVec.getLsbD_append]
  simp only [show ¬ 16 + i < 3 by omega, show ¬ 16 + i - 3 < 5 by omega, show ¬ 16 + i - 3 - 5 < 7 by omega,
    show ¬ 16 + i - 3 - 5 - 7 < 1 by omega, show 16 + i - 3 - 5 - 7 - 1 = i by omega, hi, if_false,
    decide_true, Bool.true_and]
  by_cases hl : i < L.val
  · simp [hl]
  · have : k.toNat.testBit i = false :=
      Nat.testBit_lt_two_pow (Nat.lt_of_lt_of_le h (Nat.pow_le_pow_right (by decide) (by omega)))
    simp [hl, BitVec.getLsbD, this]

/-- The bits above the port do not reach the opcode. -/
@[simp] theorem op_onPort (L : LenW) (w : BitVec 32) : op (onPort L w) = op w := by
  apply BitVec.eq_of_getLsbD_eq
  intro i hi
  have := L.pos
  simp [op, onPort, hi, show i < 32 by omega, show i < 16 + L.val by omega]

end CmdWord

/-- Masking is idempotent. -/
@[simp] theorem maskStatus_maskStatus (b : Byte) : maskStatus (maskStatus b) = maskStatus b := by
  simp [maskStatus, BitVec.and_assoc]

@[simp] theorem decodeState_code (f : SeqState) : decodeState f.code = .ok f := by cases f <;> rfl

end Sys2Proof
end

