-- ==== Sys2Proof/Laws/Memory.lean ====
section
/-! SUPPORT. The laws of a space: the canonical form is kept, a read after a write, and equal reads mean equal data. -/

namespace Sys2Proof.Machine.Memory

theorem wf_iff (m : Memory) : m.wf = true ↔ m.Pairwise (fun x y => x.1 < y.1) := by
  simp [wf]

@[simp] theorem wf_nil : Memory.wf [] = true := rfl

theorem read_cons (k : Nat) (b : Byte) (m : Memory) (a : Nat) :
    Memory.read ((k, b) :: m) a = if a = k then some b else Memory.read m a := rfl

/-- The cells of a memory after a write are the written one and old ones. -/
theorem mem_write {m : Memory} {a : Nat} {b : Byte} {c : Host.Cell} (h : c ∈ m.write a b) :
    c = (a, b) ∨ c ∈ m := by
  induction m with
  | nil => simpa [write] using h
  | cons x m ih =>
    obtain ⟨k, d⟩ := x
    simp only [write] at h
    split at h
    · simpa using h
    · split at h
      · rcases List.mem_cons.1 h with h | h <;> simp [h]
      · rcases List.mem_cons.1 h with h | h
        · simp [h]
        · rcases ih h with h | h <;> simp [h]

/-- A write keeps the canonical form. -/
theorem write_wf {m : Memory} (a : Nat) (b : Byte) (h : m.wf = true) : (m.write a b).wf = true := by
  rw [wf_iff] at *
  induction m with
  | nil => simp [write]
  | cons x m ih =>
    obtain ⟨k, d⟩ := x
    obtain ⟨hk, hm⟩ := List.pairwise_cons.1 h
    simp only [write]
    split
    · rename_i lt
      refine List.pairwise_cons.2 ⟨fun y hy => ?_, h⟩
      rcases List.mem_cons.1 hy with rfl | hy
      · exact lt
      · exact lt.trans (hk y hy)
    · split
      · rename_i eq
        exact List.pairwise_cons.2 ⟨fun y hy => eq ▸ hk y hy, hm⟩
      · refine List.pairwise_cons.2 ⟨fun y hy => ?_, ih hm⟩
        rcases mem_write hy with rfl | hy
        · show k < a; omega
        · exact hk y hy

/-- A read after a write: the written byte at its address, the old byte everywhere else. -/
theorem read_write {m : Memory} (a i : Nat) (b : Byte) (h : m.wf = true) :
    (m.write a b).read i = if i = a then some b else m.read i := by
  rw [wf_iff] at h
  induction m with
  | nil => simp [write, read]
  | cons x m ih =>
    obtain ⟨k, d⟩ := x
    obtain ⟨-, hm⟩ := List.pairwise_cons.1 h
    simp only [write]
    split
    · simp only [read_cons]
    · split
      · rename_i eq
        subst eq
        simp only [read_cons]
        split <;> rfl
      · rename_i nlt ne
        simp only [read_cons, ih hm]
        by_cases hi : i = k
        · subst hi; simp [Ne.symm ne]
        · simp [hi]

/-- Below every listed address nothing is listed. -/
theorem read_none_of_lt {m : Memory} {i : Nat} (h : ∀ c ∈ m, i < c.1) : m.read i = none := by
  induction m with
  | nil => rfl
  | cons x m ih =>
    obtain ⟨k, d⟩ := x
    have hk : i < k := h (k, d) (by simp)
    rw [read_cons, if_neg (by omega)]
    exact ih fun c hc => h c (by simp [hc])

/-- The canonical form is one: two spaces that read alike are equal. -/
theorem ext_of_wf {m n : Memory} (hm : m.wf = true) (hn : n.wf = true) (h : ∀ i, m.read i = n.read i) : m = n := by
  rw [wf_iff] at hm hn
  induction m generalizing n with
  | nil =>
    cases n with
    | nil => rfl
    | cons y n => have := h y.1; simp [read] at this
  | cons x m ih =>
    obtain ⟨k, b⟩ := x
    cases n with
    | nil => have := h k; simp [read] at this
    | cons y n =>
      obtain ⟨l, c⟩ := y
      obtain ⟨hk, hm'⟩ := List.pairwise_cons.1 hm
      obtain ⟨hl, hn'⟩ := List.pairwise_cons.1 hn
      have hkl : k = l := by
        rcases Nat.lt_trichotomy k l with lt | eq | gt
        · have := h k
          rw [read_cons, if_pos rfl, read_cons, if_neg (by omega),
            read_none_of_lt fun c hc => lt.trans (hl c hc)] at this
          cases this
        · exact eq
        · have := h l
          rw [read_cons, read_cons, if_pos rfl, if_neg (by omega),
            read_none_of_lt fun c hc => Nat.lt_trans gt (hk c hc)] at this
          cases this
      subst hkl
      have hbc : b = c := by have := h k; simpa [read_cons] using this
      subst hbc
      congr 1
      refine ih hm' hn' fun i => ?_
      by_cases hi : i = k
      · subst hi
        rw [read_none_of_lt hk, read_none_of_lt hl]
      · have := h i
        simpa [read_cons, hi] using this

theorem mem_ofBytesFrom {a : Nat} {d : List Byte} {c : Host.Cell} (h : c ∈ ofBytesFrom a d) : a ≤ c.1 := by
  induction d generalizing a with
  | nil => simp [ofBytesFrom] at h
  | cons b d ih =>
    rcases List.mem_cons.1 h with rfl | h
    · exact Nat.le_refl a
    · exact Nat.le_trans (Nat.le_succ a) (ih h)

theorem ofBytesFrom_wf (a : Nat) (d : List Byte) : (ofBytesFrom a d).wf = true := by
  rw [wf_iff]
  induction d generalizing a with
  | nil => exact List.Pairwise.nil
  | cons b d ih => exact List.pairwise_cons.2 ⟨fun c hc => mem_ofBytesFrom hc, ih (a + 1)⟩

/-- The host's byte array is in canonical form. -/
@[simp] theorem ofBytes_wf (d : List Byte) : (ofBytes d).wf = true := ofBytesFrom_wf 0 d

theorem read_ofBytesFrom (a : Nat) (d : List Byte) (i : Nat) : (ofBytesFrom a d).read (a + i) = d[i]? := by
  induction d generalizing a i with
  | nil => rfl
  | cons b d ih =>
    rw [ofBytesFrom, read_cons]
    cases i with
    | zero => simp
    | succ i =>
      rw [if_neg (by omega), show a + (i + 1) = a + 1 + i by omega, ih]
      rfl

/-- `TxMem[i]` is the host's byte `i`. -/
@[simp] theorem read_ofBytes (d : List Byte) (i : Nat) : (ofBytes d).read i = d[i]? := by
  have := read_ofBytesFrom 0 d i
  rwa [Nat.zero_add] at this

end Sys2Proof.Machine.Memory
end

