-- ==== Sys2Proof/Laws/State.lean ====
section
/-! SUPPORT. What each update of the state does to each field: true by `rfl`, used by every later proof instead of
unfolding the record updates. -/

namespace Sys2Proof.Machine

variable (s : State)

@[simp] theorem goto_lenW (f : SeqState) : (s.goto f).lenW = s.lenW := rfl
@[simp] theorem goto_fsm (f : SeqState) : (s.goto f).fsm = f := rfl
@[simp] theorem goto_mode (f : SeqState) : (s.goto f).mode = s.mode := rfl
@[simp] theorem goto_addrQ (f : SeqState) : (s.goto f).addrQ = s.addrQ := rfl
@[simp] theorem goto_lenQ (f : SeqState) : (s.goto f).lenQ = s.lenQ := rfl
@[simp] theorem goto_txIdx (f : SeqState) : (s.goto f).txIdx = s.txIdx := rfl
@[simp] theorem goto_allocLen (f : SeqState) : (s.goto f).allocLen = s.allocLen := rfl
@[simp] theorem goto_cursor (f : SeqState) : (s.goto f).cursor = s.cursor := rfl
@[simp] theorem goto_statQ (f : SeqState) : (s.goto f).statQ = s.statQ := rfl
@[simp] theorem goto_result (f : SeqState) : (s.goto f).result = s.result := rfl
@[simp] theorem goto_fault (f : SeqState) : (s.goto f).fault = s.fault := rfl
@[simp] theorem goto_initDone (f : SeqState) : (s.goto f).initDone = s.initDone := rfl
@[simp] theorem goto_rxBuf (f : SeqState) : (s.goto f).rxBuf = s.rxBuf := rfl
@[simp] theorem goto_ctl (f : SeqState) : (s.goto f).ctl = s.ctl := rfl
@[simp] theorem goto_rst (f : SeqState) : (s.goto f).rst = s.rst := rfl
@[simp] theorem goto_cmds (f : SeqState) : (s.goto f).cmds = s.cmds := rfl
@[simp] theorem goto_txMem (f : SeqState) : (s.goto f).txMem = s.txMem := rfl
@[simp] theorem goto_reads (f : SeqState) : (s.goto f).reads = s.reads := rfl
@[simp] theorem goto_tick (f : SeqState) : (s.goto f).tick = s.tick := rfl
@[simp] theorem goto_trace (f : SeqState) : (s.goto f).trace = s.trace := rfl

@[simp] theorem log_lenW (e : Event) : (s.log e).lenW = s.lenW := rfl
@[simp] theorem log_fsm (e : Event) : (s.log e).fsm = s.fsm := rfl
@[simp] theorem log_mode (e : Event) : (s.log e).mode = s.mode := rfl
@[simp] theorem log_addrQ (e : Event) : (s.log e).addrQ = s.addrQ := rfl
@[simp] theorem log_lenQ (e : Event) : (s.log e).lenQ = s.lenQ := rfl
@[simp] theorem log_txIdx (e : Event) : (s.log e).txIdx = s.txIdx := rfl
@[simp] theorem log_allocLen (e : Event) : (s.log e).allocLen = s.allocLen := rfl
@[simp] theorem log_cursor (e : Event) : (s.log e).cursor = s.cursor := rfl
@[simp] theorem log_statQ (e : Event) : (s.log e).statQ = s.statQ := rfl
@[simp] theorem log_result (e : Event) : (s.log e).result = s.result := rfl
@[simp] theorem log_fault (e : Event) : (s.log e).fault = s.fault := rfl
@[simp] theorem log_initDone (e : Event) : (s.log e).initDone = s.initDone := rfl
@[simp] theorem log_rxBuf (e : Event) : (s.log e).rxBuf = s.rxBuf := rfl
@[simp] theorem log_ctl (e : Event) : (s.log e).ctl = s.ctl := rfl
@[simp] theorem log_rst (e : Event) : (s.log e).rst = s.rst := rfl
@[simp] theorem log_cmds (e : Event) : (s.log e).cmds = s.cmds := rfl
@[simp] theorem log_txMem (e : Event) : (s.log e).txMem = s.txMem := rfl
@[simp] theorem log_reads (e : Event) : (s.log e).reads = s.reads := rfl
@[simp] theorem log_tick (e : Event) : (s.log e).tick = s.tick := rfl
@[simp] theorem log_trace (e : Event) : (s.log e).trace = s.trace ++ [e] := rfl

@[simp] theorem finish_lenW (v : Resp) (f : SeqState) : (s.finish v f).lenW = s.lenW := rfl
@[simp] theorem finish_fsm (v : Resp) (f : SeqState) : (s.finish v f).fsm = f := rfl
@[simp] theorem finish_mode (v : Resp) (f : SeqState) : (s.finish v f).mode = s.mode := rfl
@[simp] theorem finish_addrQ (v : Resp) (f : SeqState) : (s.finish v f).addrQ = s.addrQ := rfl
@[simp] theorem finish_lenQ (v : Resp) (f : SeqState) : (s.finish v f).lenQ = s.lenQ := rfl
@[simp] theorem finish_txIdx (v : Resp) (f : SeqState) : (s.finish v f).txIdx = s.txIdx := rfl
@[simp] theorem finish_allocLen (v : Resp) (f : SeqState) : (s.finish v f).allocLen = s.allocLen := rfl
@[simp] theorem finish_cursor (v : Resp) (f : SeqState) : (s.finish v f).cursor = s.cursor := rfl
@[simp] theorem finish_statQ (v : Resp) (f : SeqState) : (s.finish v f).statQ = s.statQ := rfl
@[simp] theorem finish_result (v : Resp) (f : SeqState) : (s.finish v f).result = v := rfl
@[simp] theorem finish_fault (v : Resp) (f : SeqState) : (s.finish v f).fault = s.fault := rfl
@[simp] theorem finish_initDone (v : Resp) (f : SeqState) : (s.finish v f).initDone = s.initDone := rfl
@[simp] theorem finish_rxBuf (v : Resp) (f : SeqState) : (s.finish v f).rxBuf = s.rxBuf := rfl
@[simp] theorem finish_ctl (v : Resp) (f : SeqState) : (s.finish v f).ctl = s.ctl := rfl
@[simp] theorem finish_rst (v : Resp) (f : SeqState) : (s.finish v f).rst = s.rst := rfl
@[simp] theorem finish_cmds (v : Resp) (f : SeqState) : (s.finish v f).cmds = s.cmds := rfl
@[simp] theorem finish_txMem (v : Resp) (f : SeqState) : (s.finish v f).txMem = s.txMem := rfl
@[simp] theorem finish_reads (v : Resp) (f : SeqState) : (s.finish v f).reads = s.reads := rfl
@[simp] theorem finish_tick (v : Resp) (f : SeqState) : (s.finish v f).tick = s.tick := rfl
@[simp] theorem finish_trace (v : Resp) (f : SeqState) : (s.finish v f).trace = s.trace := rfl

@[simp] theorem setFault_lenW (b : FaultBit) : (s.setFault b).lenW = s.lenW := rfl
@[simp] theorem setFault_fsm (b : FaultBit) : (s.setFault b).fsm = s.fsm := rfl
@[simp] theorem setFault_mode (b : FaultBit) : (s.setFault b).mode = s.mode := rfl
@[simp] theorem setFault_addrQ (b : FaultBit) : (s.setFault b).addrQ = s.addrQ := rfl
@[simp] theorem setFault_lenQ (b : FaultBit) : (s.setFault b).lenQ = s.lenQ := rfl
@[simp] theorem setFault_txIdx (b : FaultBit) : (s.setFault b).txIdx = s.txIdx := rfl
@[simp] theorem setFault_allocLen (b : FaultBit) : (s.setFault b).allocLen = s.allocLen := rfl
@[simp] theorem setFault_cursor (b : FaultBit) : (s.setFault b).cursor = s.cursor := rfl
@[simp] theorem setFault_statQ (b : FaultBit) : (s.setFault b).statQ = s.statQ := rfl
@[simp] theorem setFault_result (b : FaultBit) : (s.setFault b).result = s.result := rfl
@[simp] theorem setFault_fault (b : FaultBit) : (s.setFault b).fault = s.fault ||| b.mask := rfl
@[simp] theorem setFault_initDone (b : FaultBit) : (s.setFault b).initDone = s.initDone := rfl
@[simp] theorem setFault_rxBuf (b : FaultBit) : (s.setFault b).rxBuf = s.rxBuf := rfl
@[simp] theorem setFault_ctl (b : FaultBit) : (s.setFault b).ctl = s.ctl := rfl
@[simp] theorem setFault_rst (b : FaultBit) : (s.setFault b).rst = s.rst := rfl
@[simp] theorem setFault_cmds (b : FaultBit) : (s.setFault b).cmds = s.cmds := rfl
@[simp] theorem setFault_txMem (b : FaultBit) : (s.setFault b).txMem = s.txMem := rfl
@[simp] theorem setFault_reads (b : FaultBit) : (s.setFault b).reads = s.reads := rfl
@[simp] theorem setFault_tick (b : FaultBit) : (s.setFault b).tick = s.tick := rfl
@[simp] theorem setFault_trace (b : FaultBit) : (s.setFault b).trace = s.trace := rfl

@[simp] theorem regWrite_lenW (r : RegName) (v : Byte) : (s.regWrite r v).lenW = s.lenW := rfl
@[simp] theorem regWrite_fsm (r : RegName) (v : Byte) : (s.regWrite r v).fsm = s.fsm := rfl
@[simp] theorem regWrite_mode (r : RegName) (v : Byte) : (s.regWrite r v).mode = s.mode := rfl
@[simp] theorem regWrite_addrQ (r : RegName) (v : Byte) : (s.regWrite r v).addrQ = s.addrQ := rfl
@[simp] theorem regWrite_lenQ (r : RegName) (v : Byte) : (s.regWrite r v).lenQ = s.lenQ := rfl
@[simp] theorem regWrite_txIdx (r : RegName) (v : Byte) : (s.regWrite r v).txIdx = s.txIdx := rfl
@[simp] theorem regWrite_allocLen (r : RegName) (v : Byte) : (s.regWrite r v).allocLen = s.allocLen := rfl
@[simp] theorem regWrite_cursor (r : RegName) (v : Byte) : (s.regWrite r v).cursor = s.cursor := rfl
@[simp] theorem regWrite_statQ (r : RegName) (v : Byte) : (s.regWrite r v).statQ = s.statQ := rfl
@[simp] theorem regWrite_result (r : RegName) (v : Byte) : (s.regWrite r v).result = s.result := rfl
@[simp] theorem regWrite_fault (r : RegName) (v : Byte) : (s.regWrite r v).fault = s.fault := rfl
@[simp] theorem regWrite_initDone (r : RegName) (v : Byte) : (s.regWrite r v).initDone = s.initDone := rfl
@[simp] theorem regWrite_rxBuf (r : RegName) (v : Byte) : (s.regWrite r v).rxBuf = s.rxBuf := rfl
@[simp] theorem regWrite_ctl (r : RegName) (v : Byte) : (s.regWrite r v).ctl = ctlAfterWrite s.ctl r v := rfl
@[simp] theorem regWrite_rst (r : RegName) (v : Byte) : (s.regWrite r v).rst = s.rst := rfl
@[simp] theorem regWrite_cmds (r : RegName) (v : Byte) : (s.regWrite r v).cmds = s.cmds := rfl
@[simp] theorem regWrite_txMem (r : RegName) (v : Byte) : (s.regWrite r v).txMem = s.txMem := rfl
@[simp] theorem regWrite_reads (r : RegName) (v : Byte) : (s.regWrite r v).reads = s.reads := rfl
@[simp] theorem regWrite_tick (r : RegName) (v : Byte) : (s.regWrite r v).tick = s.tick + 1 := rfl
@[simp] theorem regWrite_trace (r : RegName) (v : Byte) : (s.regWrite r v).trace = s.trace ++ [.regWrite r v] := rfl

@[simp] theorem regRead_lenW (r : RegName) : (s.regRead r).lenW = s.lenW := rfl
@[simp] theorem regRead_fsm (r : RegName) : (s.regRead r).fsm = s.fsm := rfl
@[simp] theorem regRead_mode (r : RegName) : (s.regRead r).mode = s.mode := rfl
@[simp] theorem regRead_addrQ (r : RegName) : (s.regRead r).addrQ = s.addrQ := rfl
@[simp] theorem regRead_lenQ (r : RegName) : (s.regRead r).lenQ = s.lenQ := rfl
@[simp] theorem regRead_txIdx (r : RegName) : (s.regRead r).txIdx = s.txIdx := rfl
@[simp] theorem regRead_allocLen (r : RegName) : (s.regRead r).allocLen = s.allocLen := rfl
@[simp] theorem regRead_cursor (r : RegName) : (s.regRead r).cursor = s.cursor := rfl
@[simp] theorem regRead_statQ (r : RegName) : (s.regRead r).statQ = s.statQ := rfl
@[simp] theorem regRead_result (r : RegName) : (s.regRead r).result = s.result := rfl
@[simp] theorem regRead_fault (r : RegName) : (s.regRead r).fault = s.fault := rfl
@[simp] theorem regRead_initDone (r : RegName) : (s.regRead r).initDone = s.initDone := rfl
@[simp] theorem regRead_rxBuf (r : RegName) : (s.regRead r).rxBuf = s.rxBuf := rfl
@[simp] theorem regRead_ctl (r : RegName) : (s.regRead r).ctl = s.ctl := rfl
@[simp] theorem regRead_rst (r : RegName) : (s.regRead r).rst = s.rst := rfl
@[simp] theorem regRead_cmds (r : RegName) : (s.regRead r).cmds = s.cmds := rfl
@[simp] theorem regRead_txMem (r : RegName) : (s.regRead r).txMem = s.txMem := rfl
@[simp] theorem regRead_reads (r : RegName) : (s.regRead r).reads = s.reads.tail := rfl
@[simp] theorem regRead_tick (r : RegName) : (s.regRead r).tick = s.tick + 1 := rfl
@[simp] theorem regRead_trace (r : RegName) : (s.regRead r).trace = s.trace ++ [.regRead r s.regRdata] := rfl

@[simp] theorem accept_lenW (c : HostCmd) (q : List HostCmd) : (s.accept c q).lenW = s.lenW := rfl
@[simp] theorem accept_fsm (c : HostCmd) (q : List HostCmd) : (s.accept c q).fsm = s.fsm := rfl
@[simp] theorem accept_mode (c : HostCmd) (q : List HostCmd) : (s.accept c q).mode = s.mode := rfl
@[simp] theorem accept_addrQ (c : HostCmd) (q : List HostCmd) : (s.accept c q).addrQ = s.addrQ := rfl
@[simp] theorem accept_lenQ (c : HostCmd) (q : List HostCmd) : (s.accept c q).lenQ = s.lenQ := rfl
@[simp] theorem accept_txIdx (c : HostCmd) (q : List HostCmd) : (s.accept c q).txIdx = s.txIdx := rfl
@[simp] theorem accept_allocLen (c : HostCmd) (q : List HostCmd) : (s.accept c q).allocLen = s.allocLen := rfl
@[simp] theorem accept_cursor (c : HostCmd) (q : List HostCmd) : (s.accept c q).cursor = s.cursor := rfl
@[simp] theorem accept_statQ (c : HostCmd) (q : List HostCmd) : (s.accept c q).statQ = s.statQ := rfl
@[simp] theorem accept_result (c : HostCmd) (q : List HostCmd) : (s.accept c q).result = s.result := rfl
@[simp] theorem accept_fault (c : HostCmd) (q : List HostCmd) : (s.accept c q).fault = s.fault := rfl
@[simp] theorem accept_initDone (c : HostCmd) (q : List HostCmd) : (s.accept c q).initDone = s.initDone := rfl
@[simp] theorem accept_rxBuf (c : HostCmd) (q : List HostCmd) : (s.accept c q).rxBuf = s.rxBuf := rfl
@[simp] theorem accept_ctl (c : HostCmd) (q : List HostCmd) : (s.accept c q).ctl = s.ctl := rfl
@[simp] theorem accept_rst (c : HostCmd) (q : List HostCmd) : (s.accept c q).rst = s.rst := rfl
@[simp] theorem accept_cmds (c : HostCmd) (q : List HostCmd) : (s.accept c q).cmds = q := rfl
@[simp] theorem accept_txMem (c : HostCmd) (q : List HostCmd) : (s.accept c q).txMem = Memory.ofBytes c.data := rfl
@[simp] theorem accept_reads (c : HostCmd) (q : List HostCmd) : (s.accept c q).reads = s.reads := rfl
@[simp] theorem accept_tick (c : HostCmd) (q : List HostCmd) : (s.accept c q).tick = s.tick := rfl
@[simp] theorem accept_trace (c : HostCmd) (q : List HostCmd) : (s.accept c q).trace = s.trace ++ [.cmd (CmdWord.onPort s.lenW c.word)] := rfl

@[simp] theorem stopSuccess_lenW : (s.stopSuccess).lenW = s.lenW := rfl
@[simp] theorem stopSuccess_fsm : (s.stopSuccess).fsm = .stopSto := rfl
@[simp] theorem stopSuccess_mode : (s.stopSuccess).mode = s.mode := rfl
@[simp] theorem stopSuccess_addrQ : (s.stopSuccess).addrQ = s.addrQ := rfl
@[simp] theorem stopSuccess_lenQ : (s.stopSuccess).lenQ = s.lenQ := rfl
@[simp] theorem stopSuccess_txIdx : (s.stopSuccess).txIdx = s.txIdx := rfl
@[simp] theorem stopSuccess_allocLen : (s.stopSuccess).allocLen = s.allocLen := rfl
@[simp] theorem stopSuccess_cursor : (s.stopSuccess).cursor = s.cursor := rfl
@[simp] theorem stopSuccess_statQ : (s.stopSuccess).statQ = s.statQ := rfl
@[simp] theorem stopSuccess_result : (s.stopSuccess).result = Config.success := rfl
@[simp] theorem stopSuccess_fault : (s.stopSuccess).fault = s.fault := rfl
@[simp] theorem stopSuccess_initDone : (s.stopSuccess).initDone = s.initDone := rfl
@[simp] theorem stopSuccess_rxBuf : (s.stopSuccess).rxBuf = s.rxBuf := rfl
@[simp] theorem stopSuccess_ctl : (s.stopSuccess).ctl = s.ctl := rfl
@[simp] theorem stopSuccess_rst : (s.stopSuccess).rst = s.rst := rfl
@[simp] theorem stopSuccess_cmds : (s.stopSuccess).cmds = s.cmds := rfl
@[simp] theorem stopSuccess_txMem : (s.stopSuccess).txMem = s.txMem := rfl
@[simp] theorem stopSuccess_reads : (s.stopSuccess).reads = s.reads := rfl
@[simp] theorem stopSuccess_tick : (s.stopSuccess).tick = s.tick := rfl
@[simp] theorem stopSuccess_trace : (s.stopSuccess).trace = s.trace := rfl

@[simp] theorem fail_lenW (f : SeqState) : (s.fail f).lenW = s.lenW := rfl
@[simp] theorem fail_fsm (f : SeqState) : (s.fail f).fsm = f := rfl
@[simp] theorem fail_mode (f : SeqState) : (s.fail f).mode = s.mode := rfl
@[simp] theorem fail_addrQ (f : SeqState) : (s.fail f).addrQ = s.addrQ := rfl
@[simp] theorem fail_lenQ (f : SeqState) : (s.fail f).lenQ = s.lenQ := rfl
@[simp] theorem fail_txIdx (f : SeqState) : (s.fail f).txIdx = s.txIdx := rfl
@[simp] theorem fail_allocLen (f : SeqState) : (s.fail f).allocLen = s.allocLen := rfl
@[simp] theorem fail_cursor (f : SeqState) : (s.fail f).cursor = s.cursor := rfl
@[simp] theorem fail_statQ (f : SeqState) : (s.fail f).statQ = s.statQ := rfl
@[simp] theorem fail_result (f : SeqState) : (s.fail f).result = respOfByte s.statQ := rfl
@[simp] theorem fail_fault (f : SeqState) : (s.fail f).fault = s.fault := rfl
@[simp] theorem fail_initDone (f : SeqState) : (s.fail f).initDone = s.initDone := rfl
@[simp] theorem fail_rxBuf (f : SeqState) : (s.fail f).rxBuf = s.rxBuf := rfl
@[simp] theorem fail_ctl (f : SeqState) : (s.fail f).ctl = s.ctl := rfl
@[simp] theorem fail_rst (f : SeqState) : (s.fail f).rst = s.rst := rfl
@[simp] theorem fail_cmds (f : SeqState) : (s.fail f).cmds = s.cmds := rfl
@[simp] theorem fail_txMem (f : SeqState) : (s.fail f).txMem = s.txMem := rfl
@[simp] theorem fail_reads (f : SeqState) : (s.fail f).reads = s.reads := rfl
@[simp] theorem fail_tick (f : SeqState) : (s.fail f).tick = s.tick := rfl
@[simp] theorem fail_trace (f : SeqState) : (s.fail f).trace = s.trace := rfl

@[simp] theorem defaultArm_lenW : (s.defaultArm).lenW = s.lenW := rfl
@[simp] theorem defaultArm_fsm : (s.defaultArm).fsm = .ret := rfl
@[simp] theorem defaultArm_mode : (s.defaultArm).mode = s.mode := rfl
@[simp] theorem defaultArm_addrQ : (s.defaultArm).addrQ = s.addrQ := rfl
@[simp] theorem defaultArm_lenQ : (s.defaultArm).lenQ = s.lenQ := rfl
@[simp] theorem defaultArm_txIdx : (s.defaultArm).txIdx = s.txIdx := rfl
@[simp] theorem defaultArm_allocLen : (s.defaultArm).allocLen = s.allocLen := rfl
@[simp] theorem defaultArm_cursor : (s.defaultArm).cursor = s.cursor := rfl
@[simp] theorem defaultArm_statQ : (s.defaultArm).statQ = s.statQ := rfl
@[simp] theorem defaultArm_result : (s.defaultArm).result = respOfByte s.statQ := rfl
@[simp] theorem defaultArm_fault : (s.defaultArm).fault = s.fault ||| FaultBit.mask .unclassified := rfl
@[simp] theorem defaultArm_initDone : (s.defaultArm).initDone = s.initDone := rfl
@[simp] theorem defaultArm_rxBuf : (s.defaultArm).rxBuf = s.rxBuf := rfl
@[simp] theorem defaultArm_ctl : (s.defaultArm).ctl = s.ctl := rfl
@[simp] theorem defaultArm_rst : (s.defaultArm).rst = s.rst := rfl
@[simp] theorem defaultArm_cmds : (s.defaultArm).cmds = s.cmds := rfl
@[simp] theorem defaultArm_txMem : (s.defaultArm).txMem = s.txMem := rfl
@[simp] theorem defaultArm_reads : (s.defaultArm).reads = s.reads := rfl
@[simp] theorem defaultArm_tick : (s.defaultArm).tick = s.tick := rfl
@[simp] theorem defaultArm_trace : (s.defaultArm).trace = s.trace := rfl

@[simp] theorem illegalCmd_lenW : (s.illegalCmd).lenW = s.lenW := rfl
@[simp] theorem illegalCmd_fsm : (s.illegalCmd).fsm = .ret := rfl
@[simp] theorem illegalCmd_mode : (s.illegalCmd).mode = s.mode := rfl
@[simp] theorem illegalCmd_addrQ : (s.illegalCmd).addrQ = s.addrQ := rfl
@[simp] theorem illegalCmd_lenQ : (s.illegalCmd).lenQ = s.lenQ := rfl
@[simp] theorem illegalCmd_txIdx : (s.illegalCmd).txIdx = s.txIdx := rfl
@[simp] theorem illegalCmd_allocLen : (s.illegalCmd).allocLen = s.allocLen := rfl
@[simp] theorem illegalCmd_cursor : (s.illegalCmd).cursor = s.cursor := rfl
@[simp] theorem illegalCmd_statQ : (s.illegalCmd).statQ = s.statQ := rfl
@[simp] theorem illegalCmd_result : (s.illegalCmd).result = Config.success := rfl
@[simp] theorem illegalCmd_fault : (s.illegalCmd).fault = s.fault ||| FaultBit.mask .illegalCmd := rfl
@[simp] theorem illegalCmd_initDone : (s.illegalCmd).initDone = s.initDone := rfl
@[simp] theorem illegalCmd_rxBuf : (s.illegalCmd).rxBuf = s.rxBuf := rfl
@[simp] theorem illegalCmd_ctl : (s.illegalCmd).ctl = s.ctl := rfl
@[simp] theorem illegalCmd_rst : (s.illegalCmd).rst = s.rst := rfl
@[simp] theorem illegalCmd_cmds : (s.illegalCmd).cmds = s.cmds := rfl
@[simp] theorem illegalCmd_txMem : (s.illegalCmd).txMem = s.txMem := rfl
@[simp] theorem illegalCmd_reads : (s.illegalCmd).reads = s.reads := rfl
@[simp] theorem illegalCmd_tick : (s.illegalCmd).tick = s.tick := rfl
@[simp] theorem illegalCmd_trace : (s.illegalCmd).trace = s.trace := rfl

@[simp] theorem respond_lenW : (s.respond).lenW = s.lenW := rfl
@[simp] theorem respond_fsm : (s.respond).fsm = .idle := rfl
@[simp] theorem respond_mode : (s.respond).mode = s.mode := rfl
@[simp] theorem respond_addrQ : (s.respond).addrQ = s.addrQ := rfl
@[simp] theorem respond_lenQ : (s.respond).lenQ = s.lenQ := rfl
@[simp] theorem respond_txIdx : (s.respond).txIdx = s.txIdx := rfl
@[simp] theorem respond_allocLen : (s.respond).allocLen = s.allocLen := rfl
@[simp] theorem respond_cursor : (s.respond).cursor = s.cursor := rfl
@[simp] theorem respond_statQ : (s.respond).statQ = s.statQ := rfl
@[simp] theorem respond_result : (s.respond).result = s.result := rfl
@[simp] theorem respond_fault : (s.respond).fault = s.fault := rfl
@[simp] theorem respond_initDone : (s.respond).initDone = s.initDone := rfl
@[simp] theorem respond_rxBuf : (s.respond).rxBuf = s.rxBuf := rfl
@[simp] theorem respond_ctl : (s.respond).ctl = s.ctl := rfl
@[simp] theorem respond_rst : (s.respond).rst = s.rst := rfl
@[simp] theorem respond_cmds : (s.respond).cmds = s.cmds := rfl
@[simp] theorem respond_txMem : (s.respond).txMem = s.txMem := rfl
@[simp] theorem respond_reads : (s.respond).reads = s.reads := rfl
@[simp] theorem respond_tick : (s.respond).tick = s.tick := rfl
@[simp] theorem respond_trace : (s.respond).trace = s.trace ++ [.rsp s.result] := rfl

end Sys2Proof.Machine
end

