-- ==== Sys2Proof/Laws/Ops.lean ====
section
/-! SUPPORT. One lemma per shared operation: what it emits, what it can answer. -/

namespace Sys2Proof.Machine

/-- The register operation of each sequencer state (45_sequencer.md R221), by name. -/
@[simp] theorem selected_start (s : State) : s.selected .start = s.regWrite .conset 0x20#8 := rfl
@[simp] theorem selected_decStat (s : State) : s.selected .decStat = s.regRead .stat := rfl
@[simp] theorem selected_decSi (s : State) : s.selected .decSi = s.regRead .conset := rfl
@[simp] theorem selected_addrDat (s : State) : s.selected .addrDat = s.regWrite .dat (slaByte s.addrQ s.mode) := rfl
@[simp] theorem selected_addrAa (s : State) : s.selected .addrAa = s.regWrite .conset 0x04#8 := rfl
@[simp] theorem selected_staClr (s : State) : s.selected .staClr = s.regWrite .conclr 0x20#8 := rfl
@[simp] theorem selected_txdDat (s : State) : s.selected .txdDat = s.regWrite .dat s.txByte := rfl
@[simp] theorem selected_txdAa (s : State) : s.selected .txdAa = s.regWrite .conset 0x04#8 := rfl
@[simp] theorem selected_rxdRead (s : State) : s.selected .rxdRead = s.regRead .dat := rfl
@[simp] theorem selected_ackSet (s : State) : s.selected .ackSet = s.regWrite .conset 0x04#8 := rfl
@[simp] theorem selected_ackClr (s : State) : s.selected .ackClr = s.regWrite .conclr 0x04#8 := rfl
@[simp] theorem selected_siClr (s : State) : s.selected .siClr = s.regWrite .conclr 0x08#8 := rfl
@[simp] theorem selected_stopSto (s : State) : s.selected .stopSto = s.regWrite .conset 0x10#8 := rfl
@[simp] theorem selected_stopSi (s : State) : s.selected .stopSi = s.regWrite .conclr 0x08#8 := rfl

/-- The store (R182): it stores and increments below the allocated length, drops the byte at it, and stops only on a
cell that does not exist. -/
theorem store_cases {s t : State} {b : Byte} (h : s.store b = .next t) :
    (s.cursor < s.allocLen ∧ s.cursor.toNat < s.lenW.cells ∧
      t = { s with rxBuf := s.rxBuf.write s.cursor.toNat b, cursor := s.cursor + 1#16 }) ∨
    (¬ s.cursor < s.allocLen ∧ t = (s.setFault .rxOverrun).log (.faultSet .rxOverrun)) := by
  unfold State.store at h
  split at h
  · split at h
    · exact .inl ⟨‹_›, ‹_›, by simpa using h.symm⟩
    · cases h
  · exact .inr ⟨‹_›, by simpa using h.symm⟩

/-- The store completes on a cell that exists. -/
theorem store_next (s : State) (b : Byte) (h : s.cursor < s.allocLen → s.cursor.toNat < s.lenW.cells) :
    ∃ t, s.store b = .next t := by
  unfold State.store
  split
  · rw [if_pos (h ‹_›)]; exact ⟨_, rfl⟩
  · exact ⟨_, rfl⟩

/-- A queued answer is the one a read gets (20_memory.md R72). -/
@[simp] theorem regRdata_cons {s : State} {v : RegWord} {q : List RegWord} (h : s.reads = v :: q) : s.regRdata = v := by
  simp [State.regRdata, h]

/-- A step with the reset input released is the row of the sequencer state. -/
theorem step_of_rst {s : State} (h : s.rst = false) : step s = exec s.fsm.row s := by simp [step, State.fetch, h]

/-- A step with the reset input asserted is the reset. -/
theorem step_of_reset {s : State} (h : s.rst = true) : step s = .next s.applyReset := by simp [step, h]

/-- The acceptance step is the decoded command (R222). -/
theorem runCommand_eq_exec (w : BitVec 32) (s : State) : runCommand w s = exec (decodeCmd s.lenW w) s := by
  unfold runCommand decodeCmd
  generalize (CmdWord.op w).toNat = k
  rcases k with _ | _ | _ | _ | _ | _ | _ | k <;> rfl

theorem exec_sIdle_nil {s : State} (h : s.cmds = []) : exec .sIdle s = .next s := by
  simp [exec, execSIdle, h]

theorem exec_sIdle_cons {s : State} {c : HostCmd} {q : List HostCmd} (h : s.cmds = c :: q) :
    exec .sIdle s = exec (decodeCmd s.lenW c.word) (s.accept c q) := by
  rw [← show (s.accept c q).lenW = s.lenW from rfl, ← runCommand_eq_exec]
  simp only [exec, execSIdle, h]

/-- Each class but `unclassified` is the class of one code (R100). -/
theorem code_of_classOf : ∀ b : Byte,
    (classOf b = .start → b = 0x08#8) ∧ (classOf b = .rstart → b = 0x10#8) ∧ (classOf b = .slawAck → b = 0x18#8) ∧
    (classOf b = .slawNack → b = 0x20#8) ∧ (classOf b = .datwAck → b = 0x28#8) ∧ (classOf b = .datwNack → b = 0x30#8) ∧
    (classOf b = .arbLost → b = 0x38#8) ∧ (classOf b = .busError → b = 0x00#8) ∧ (classOf b = .slarAck → b = 0x40#8) ∧
    (classOf b = .slarNack → b = 0x48#8) ∧ (classOf b = .datrAck → b = 0x50#8) ∧ (classOf b = .datrNack → b = 0x58#8) ∧
    (classOf b = .noInfo → b = 0xF8#8) := by decide

/-- Every unclassified row is the default arm (R236). -/
theorem runUnclassified_eq (s : State) : runUnclassified s = .next s.defaultArm := by
  unfold runUnclassified
  split <;> rfl

/-- Everything the dispatch step's case can do (R226). -/
theorem runRow_cases (s : State) : ∃ t, runRow s = .next t ∧
    (((s.statQ = 0x08#8 ∨ s.statQ = 0x10#8) ∧ t = s.goto .addrDat) ∨
    (s.mode = .transmit ∧ (s.statQ = 0x18#8 ∨ s.statQ = 0x28#8) ∧ t = s.bytesRemainOrStop) ∨
    (((s.mode = .transmit ∧ (s.statQ = 0x20#8 ∨ s.statQ = 0x30#8)) ∨ (s.mode = .receive ∧ s.statQ = 0x48#8)) ∧
      t = s.stopSuccess) ∨
    (s.statQ = 0x38#8 ∧ t = s.fail .ret) ∨ (s.statQ = 0x00#8 ∧ t = s.fail .stopSto) ∨
    (s.mode = .receive ∧ s.statQ = 0x40#8 ∧ t = s.goto .ackSet) ∨
    (s.mode = .receive ∧ (s.statQ = 0x50#8 ∨ s.statQ = 0x58#8) ∧ t = s.goto .rxdRead) ∨
    (((s.mode = .transmit ∧ (s.statQ = 0x40#8 ∨ s.statQ = 0x48#8 ∨ s.statQ = 0x50#8 ∨ s.statQ = 0x58#8)) ∨
      (s.mode = .receive ∧ (s.statQ = 0x18#8 ∨ s.statQ = 0x20#8 ∨ s.statQ = 0x28#8 ∨ s.statQ = 0x30#8)) ∨
      classOf s.statQ = .unclassified ∨ s.statQ = 0xF8#8) ∧ t = s.defaultArm)) := by
  obtain ⟨h1, h2, h3, h4, h5, h6, h7, h8, h9, h10, h11, h12, h13⟩ := code_of_classOf s.statQ
  unfold runRow
  cases hm : s.mode <;> cases hk : classOf s.statQ <;>
    simp only [hk, reduceCtorEq, forall_const, false_implies] at h1 h2 h3 h4 h5 h6 h7 h8 h9 h10 h11 h12 h13 <;>
    first
    | exact ⟨_, rfl, by simp_all⟩
    | exact ⟨_, runUnclassified_eq s, by simp⟩

/-- Everything the acceptance step's case can do (R222). -/
theorem runCommand_cases (w : BitVec 32) (s : State) : ∃ t, runCommand w s = .next t ∧
    (((CmdWord.op w).toNat = 0 ∧ t = { s.log .initSeq with initDone := true }.finish Config.success .ret) ∨
    ((CmdWord.op w).toNat = 1 ∧ t = { s with
      mode := .transmit, addrQ := CmdWord.addr w, lenQ := CmdWord.n s.lenW w, txIdx := 0#16, fsm := .start }) ∨
    ((CmdWord.op w).toNat = 2 ∧ t = { s with
      allocLen := CmdWord.n s.lenW w, cursor := 0#16, mode := .receive, addrQ := CmdWord.addr w, lenQ := CmdWord.n s.lenW w, fsm := .start }) ∨
    (((CmdWord.op w).toNat = 3 ∨ (CmdWord.op w).toNat = 4) ∧ t = s.finish t.result .ret) ∨
    (5 ≤ (CmdWord.op w).toNat ∧ t = s.illegalCmd)) := by
  unfold runCommand
  have hb := CmdWord.n_lt s.lenW w
  have : (CmdWord.op w).toNat < 8 := (CmdWord.op w).isLt
  generalize (CmdWord.op w).toNat = k at *
  interval_cases k
  · exact ⟨_, rfl, by simp⟩
  · exact ⟨_, rfl, by simp⟩
  · exact ⟨_, rfl, by simp⟩
  · exact ⟨_, rfl, by simp⟩
  · simp only [execRead]
    split
    · exact ⟨_, rfl, by simp⟩
    · exact ⟨_, rfl, by simp⟩
  · exact ⟨_, rfl, by simp⟩
  · exact ⟨_, rfl, by simp⟩
  · exact ⟨_, rfl, by simp⟩


/-- What the decoder's first phase can do (R224). -/
theorem execSDecStat_eq (s : State) :
    execSDecStat s = if maskStatus (lowByte s.regRdata) = Config.stNoInfo then .next ((s.regRead .stat).goto .decStat)
      else .next ({ s.regRead .stat with statQ := maskStatus (lowByte s.regRdata) }.goto .decSi) := rfl

/-- What the read state can do (R232). -/
theorem execSRxdRead_cases {s t : State} (h : execSRxdRead s = .next t) :
    ∃ u, (s.regRead .dat).store (lowByte s.regRdata) = .next u ∧ t = u.afterStore := by
  unfold execSRxdRead at h
  split at h
  · rename_i u hu
    exact ⟨u, by simpa using hu, by simpa using h.symm⟩
  · cases h
  · cases h

/-- The codes outside the thirteen are the nineteen rows' (R99). -/
theorem unclassified_codes : ∀ b : Byte, maskStatus b = b → classOf b = .unclassified →
    b.toNat ∈ [0x60, 0x68, 0x70, 0x78, 0x80, 0x88, 0x90, 0x98, 0xA0, 0xA8, 0xB0, 0xB8, 0xC0, 0xC8, 0xD0, 0xD8, 0xE0, 0xE8,
      0xF0] := by decide

/-- A byte with reserved bits zero survives the mask (R98). -/
theorem maskStatus_of_low (b : Byte) (h0 : b.getLsbD 0 = false) (h1 : b.getLsbD 1 = false)
    (h2 : b.getLsbD 2 = false) : maskStatus b = b := by revert b; decide

theorem runUnclassified_eq_exec (s : State) (h : maskStatus s.statQ = s.statQ) (hc : classOf s.statQ = .unclassified) :
    runUnclassified s = exec (unclassifiedRow s.statQ) s := by
  have hm := unclassified_codes _ h hc
  unfold runUnclassified unclassifiedRow
  generalize s.statQ.toNat = k at *
  fin_cases hm <;> rfl

/-- The dispatch step's case is the decoded row (R98, R226). -/
theorem runRow_eq_exec (s : State) (h : maskStatus s.statQ = s.statQ) (hn : s.statQ ≠ 0xF8#8) :
    runRow s = exec (statusRow s.mode s.statQ) s := by
  have hu := runUnclassified_eq_exec s h
  have hni : classOf s.statQ ≠ .noInfo := fun hk => hn ((code_of_classOf s.statQ).2.2.2.2.2.2.2.2.2.2.2.2 hk)
  unfold runRow statusRow
  generalize s.mode = m at *
  cases hk : classOf s.statQ <;> cases m <;> first | rfl | exact hu hk | exact absurd hk hni

/-- What a run has received, event by event. -/
theorem received_append (tr evs : List Event) : received (tr ++ evs) = evs.foldl receivedStep (received tr) := by
  simp [received]

end Sys2Proof.Machine
end

