-- ==== Sys2Proof/Laws/Step.lean ====
section
/-! SUPPORT. Everything one step with the reset input released can do, said once (45_sequencer.md R221 to R250). -/

namespace Sys2Proof.Machine

/-- `StepCase s t`: a step leads from `s` to `t`, by the sequencer state it is taken in. -/
inductive StepCase (s : State) : State → Prop where
  | stutter : s.fsm = .idle → s.cmds = [] → StepCase s s
  | accept {t : State} (c : HostCmd) (q : List HostCmd) : s.fsm = .idle → s.cmds = c :: q →
      runCommand c.word (s.accept c q) = .next t → StepCase s t
  | start : s.fsm = .start → StepCase s ((s.regWrite .conset 0x20#8).goto .decStat)
  | poll : s.fsm = .decStat → maskStatus (lowByte s.regRdata) = 0xF8#8 → StepCase s ((s.regRead .stat).goto .decStat)
  | latch : s.fsm = .decStat → maskStatus (lowByte s.regRdata) ≠ 0xF8#8 →
      StepCase s ({ s.regRead .stat with statQ := maskStatus (lowByte s.regRdata) }.goto .decSi)
  | flagLow : s.fsm = .decSi → siFlag s.regRdata = false → StepCase s ((s.regRead .conset).goto .decSi)
  | flagHigh : s.fsm = .decSi → siFlag s.regRdata = true → StepCase s ((s.regRead .conset).goto .dispatch)
  | dispatch {t : State} : s.fsm = .dispatch → runRow (s.log (.dispatch (classOf s.statQ))) = .next t → StepCase s t
  | addrDat : s.fsm = .addrDat → StepCase s ((s.regWrite .dat (slaByte s.addrQ s.mode)).goto .addrAa)
  | addrAaTx : s.fsm = .addrAa → s.mode = .transmit → StepCase s ((s.regWrite .conset 0x04#8).goto .staClr)
  | addrAaRx : s.fsm = .addrAa → s.mode = .receive → StepCase s ((s.regWrite .conset 0x04#8).goto .siClr)
  | staClr : s.fsm = .staClr → StepCase s ((s.regWrite .conclr 0x20#8).goto .siClr)
  | txdDat : s.fsm = .txdDat →
      StepCase s ({ s.regWrite .dat s.txByte with txIdx := s.txIdx + 1#16 }.goto .txdAa)
  | txdAa : s.fsm = .txdAa → StepCase s ((s.regWrite .conset 0x04#8).goto .siClr)
  | rxdRead (u : State) : s.fsm = .rxdRead → (s.regRead .dat).store (lowByte s.regRdata) = .next u →
      StepCase s u.afterStore
  | ackSet : s.fsm = .ackSet → StepCase s ((s.regWrite .conset 0x04#8).goto .siClr)
  | ackClr : s.fsm = .ackClr → StepCase s ((s.regWrite .conclr 0x04#8).goto .siClr)
  | siClr : s.fsm = .siClr → StepCase s ((s.regWrite .conclr 0x08#8).goto .decStat)
  | stopSto : s.fsm = .stopSto → StepCase s ((s.regWrite .conset 0x10#8).goto .stopSi)
  | stopSi : s.fsm = .stopSi → StepCase s ((s.regWrite .conclr 0x08#8).goto .ret)
  | ret : s.fsm = .ret → StepCase s s.respond

/-- The inversion of a step: cite it and take the cases instead of unfolding `step`. -/
theorem step_cases {s t : State} (hr : s.rst = false) (ht : step s = .next t) : StepCase s t := by
  rw [step_of_rst hr] at ht
  cases hf : s.fsm <;> rw [hf] at ht <;> simp only [SeqState.row] at ht
  case idle =>
    cases hc : s.cmds with
    | nil =>
      rw [exec_sIdle_nil hc] at ht
      cases ht
      exact .stutter hf hc
    | cons c q =>
      simp only [exec, execSIdle, hc] at ht
      exact .accept c q hf hc ht
  case dispatch => exact .dispatch hf ht
  case decStat =>
    change execSDecStat s = _ at ht
    rw [execSDecStat_eq] at ht
    split at ht <;> cases ht
    · exact .poll hf ‹_›
    · exact .latch hf ‹_›
  case decSi =>
    change Host.Outcome.next ((s.regRead .conset).goto _) = _ at ht
    cases hs : siFlag s.regRdata <;> rw [hs] at ht <;> cases ht
    · exact .flagLow hf hs
    · exact .flagHigh hf hs
  case addrAa =>
    change Host.Outcome.next ((s.regWrite .conset 0x04#8).goto _) = _ at ht
    cases hm : s.mode <;> rw [hm] at ht <;> cases ht
    · exact .addrAaTx hf hm
    · exact .addrAaRx hf hm
  case rxdRead =>
    obtain ⟨u, hu, rfl⟩ := execSRxdRead_cases ht
    exact .rxdRead u hf hu
  all_goals cases ht
  case start => exact .start hf
  case addrDat => exact .addrDat hf
  case staClr => exact .staClr hf
  case txdDat => exact .txdDat hf
  case txdAa => exact .txdAa hf
  case ackSet => exact .ackSet hf
  case ackClr => exact .ackClr hf
  case siClr => exact .siClr hf
  case stopSto => exact .stopSto hf
  case stopSi => exact .stopSi hf
  case ret => exact .ret hf

/-- What the choice after a receive store leaves (R232). -/
theorem afterStore_eq (s : State) :
    s.afterStore = { s with fsm := s.afterStore.fsm, result := s.afterStore.result } := by
  unfold State.afterStore
  split <;> rfl

theorem afterStore_fsm (s : State) :
    s.afterStore.fsm = .ackSet ∨ s.afterStore.fsm = .ackClr ∨ s.afterStore.fsm = .stopSto := by
  unfold State.afterStore
  split
  · by_cases h : s.cursor < s.allocLen <;> simp [h]
  · simp

/-- The condition under which `runRow_cases` answers the default arm (R160, R179) names statuses without a row only. -/
theorem not_mem_rowCodes_of_default {m : Mode} {q : Byte}
    (h : (m = .transmit ∧ (q = 0x40#8 ∨ q = 0x48#8 ∨ q = 0x50#8 ∨ q = 0x58#8)) ∨
      (m = .receive ∧ (q = 0x18#8 ∨ q = 0x20#8 ∨ q = 0x28#8 ∨ q = 0x30#8)) ∨ classOf q = .unclassified ∨ q = 0xF8#8) :
    q ∉ rowCodes m := by
  rcases h with ⟨rfl, rfl | rfl | rfl | rfl⟩ | ⟨rfl, rfl | rfl | rfl | rfl⟩ | hq | rfl
  case inr.inr.inl =>
    cases m <;> simp only [rowCodes, List.mem_cons, List.not_mem_nil, or_false] <;>
      rintro (rfl | rfl | rfl | rfl | rfl | rfl | rfl | rfl) <;> exact absurd hq (by decide)
  case inr.inr.inr => cases m <;> decide
  all_goals decide

/-- What every dispatch row leaves (R226): the response, the fault bits and the next state only. -/
theorem runRow_frame {s t : State} (h : runRow s = .next t) :
    t = { s with fsm := t.fsm, result := t.result, fault := t.fault } := by
  obtain ⟨u, hu, hk⟩ := runRow_cases s
  rw [hu] at h
  cases h
  rcases hk with ⟨-, rfl⟩ | ⟨-, -, rfl⟩ | ⟨-, rfl⟩ | ⟨-, rfl⟩ | ⟨-, rfl⟩ | ⟨-, -, rfl⟩ | ⟨-, -, rfl⟩ | ⟨-, rfl⟩
  case inr.inl => unfold State.bytesRemainOrStop; split <;> rfl
  all_goals rfl

end Sys2Proof.Machine
end

