-- ==== Sys2Proof/Tests/Slice0.lean ====
section
/-! SUPPORT. Small tests (the expected values are the spec's: spec/opcode_table.json, 30_encoding.md, the traces of
95_test_vectors.md, cited as V<n>, X<n>) and the witnesses of the statements' hypotheses. -/

namespace Sys2Proof.Tests

open Sys2Proof.Machine

/-! ## Helpers -/

/-- Whether an answer is a next state with a property. -/
def answers (r : Result) (p : State → Bool) : Bool :=
  match r with
  | .next t => p t
  | .fault _ => false
  | .refused _ => false

/-- The state after reset, standing in a sequencer state. -/
def standing (f : SeqState) : State := { State.reset with fsm := f }

/-- Standing in the dispatch state of a transaction to address `0x50` with a latched status. -/
def dispatching (m : Mode) (st : Byte) : State :=
  { State.reset with fsm := .dispatch, mode := m, addrQ := 0x50#7, statQ := st }

/-- A receive of two bytes, standing before the read of its second byte. -/
def midReceive : State :=
  { State.reset with
    fsm := .rxdRead, mode := .receive, addrQ := 0x50#7, lenQ := 2#16, allocLen := 2#16, cursor := 1#16, statQ := 0x50#8,
    rxBuf := [(0, 0x11#8)], ctl := 0x24#8, reads := [0x22#32], tick := 9,
    trace := [.cmd 0x025002#32, .regRead .dat 0x11#32] }

/-- A transmit of two bytes, standing before the write of its second byte. -/
def midTransmit : State :=
  { State.reset with
    fsm := .txdDat, mode := .transmit, addrQ := 0x50#7, lenQ := 2#16, txIdx := 1#16, statQ := 0x28#8,
    txMem := [(0, 0x01#8), (1, 0x02#8)], ctl := 0x04#8, tick := 11, trace := [.cmd 0x025001#32] }

/-- A command word on the idle port. -/
def presenting (w : BitVec 32) (data : List Byte) : State := { State.reset with cmds := [⟨w, data⟩] }

/-! ## Well-formedness: the one check, with a term it refuses and the one at its bound -/

theorem test_wf_transmit_n_too_wide : (Instr.transmit 0x50#7 256#16).wellFormed .default8 = false := by decide
theorem test_wf_request_n_too_wide : (Instr.request 0x50#7 256#16).wellFormed .default8 = false := by decide
theorem test_wf_read_n_too_wide : (Instr.read 256#16).wellFormed .default8 = false := by decide
theorem test_wf_read_n_too_wide_for_one_bit : (Instr.read 2#16).wellFormed ⟨1, by decide, by decide⟩ = false := by decide
theorem test_wf_read_bound : (Instr.read 255#16).wellFormed .default8 = true := by decide

/-! ## Decoding: every row by a word written out from its encoding -/

/-- R90, R91, R106: operand fields as in V1, X7, V5. -/
theorem test_decode_commands :
    [0x000000#32, 0x025001#32, 0x035002#32, 0x000003#32, 0x030004#32, 0x000005#32, 0x000006#32, 0x000007#32].map
      (decodeCmd .default8) =
    [.init, .transmit 0x50#7 2#16, .request 0x50#7 3#16, .available, .read 3#16, .reserved5, .reserved6, .reserved7] := by
  decide

/-- R90: the largest operands, and reserved bits set. -/
theorem test_decode_command_corners :
    [0xFF7F01#32, 0xFFFFF9#32, 0xFF0004#32].map (decodeCmd .default8) =
    [.transmit 0x7F#7 255#16, .transmit 0x7F#7 255#16, .read 255#16] := by decide

/-- R95: the sixteen selects, first phase. -/
theorem test_decode_primitives :
    [0#4, 1#4, 2#4, 3#4, 4#4, 5#4, 6#4, 7#4, 8#4, 9#4, 10#4, 11#4, 12#4, 13#4, 14#4, 15#4].map
      (fun p => (decodePrim p .first).toOption) =
    [some .pNone, some .pStartSet, some .pStartClr, some (.pStopSet .first), some .pStopClr, some .pAckSet,
      some .pAckClr, some (.pAddrLoad .first), some (.pDataWrite .first), some .pDataRead, some .pSiWait, some .pSiClr,
      some .pStatRead, some .pReserved13, some .pReserved14, some .pReserved15] := by decide

/-- R95, R215: the second phase is the compound primitives' alone. -/
theorem test_decode_second_phase :
    [3#4, 7#4, 8#4, 1#4, 12#4].map (fun p => (decodePrim p .second).toOption) =
    [some (.pStopSet .second), some (.pAddrLoad .second), some (.pDataWrite .second), none, none] := by decide

/-- R99: the transmit table; reserved low bits set in the second half (R98). -/
theorem test_decode_transmit_rows :
    [0x08#8, 0x10#8, 0x18#8, 0x20#8, 0x28#8, 0x30#8, 0x3F#8, 0x07#8, 0x41#8, 0x4A#8, 0x54#8, 0x5F#8].map
      (fun b => (decode .default8 (.stat .transmit b)).toOption) =
    [some .txStart, some .txRstart, some .txSlawAck, some .txSlawNack, some .txDatwAck, some .txDatwNack,
      some .txArbLost, some .txBusError, some .txDefaultSlarAck, some .txDefaultSlarNack, some .txDefaultDatrAck,
      some .txDefaultDatrNack] := by decide

/-- R99: the receive table. -/
theorem test_decode_receive_rows :
    [0x08#8, 0x10#8, 0x38#8, 0x40#8, 0x48#8, 0x50#8, 0x58#8, 0x00#8, 0x1F#8, 0x21#8, 0x2A#8, 0x34#8].map
      (fun b => (decode .default8 (.stat .receive b)).toOption) =
    [some .rxStart, some .rxRstart, some .rxArbLost, some .rxSlarAck, some .rxSlarNack, some .rxDatrAck,
      some .rxDatrNack, some .rxBusError, some .rxDefaultSlawAck, some .rxDefaultSlawNack, some .rxDefaultDatwAck,
      some .rxDefaultDatwNack] := by decide

/-- R99: the nineteen other codes and no-new-state. -/
theorem test_decode_either_mode :
    [0x60#8, 0x68#8, 0x70#8, 0x78#8, 0x80#8, 0x88#8, 0x90#8, 0x98#8, 0xA0#8, 0xA8#8, 0xB0#8, 0xB8#8, 0xC0#8, 0xC8#8,
      0xD0#8, 0xD8#8, 0xE0#8, 0xE8#8, 0xF0#8, 0xF8#8].map (fun b => (decode .default8 (.stat .receive b)).toOption) =
    [some .unclassified60, some .unclassified68, some .unclassified70, some .unclassified78, some .unclassified80,
      some .unclassified88, some .unclassified90, some .unclassified98, some .unclassifiedA0, some .unclassifiedA8,
      some .unclassifiedB0, some .unclassifiedB8, some .unclassifiedC0, some .unclassifiedC8, some .unclassifiedD0,
      some .unclassifiedD8, some .unclassifiedE0, some .unclassifiedE8, some .unclassifiedF0, some .noInfo] := by decide

/-- R102: the state codes, the last one and the first unused one. -/
theorem test_decode_states :
    [0#5, 1#5, 2#5, 3#5, 4#5, 5#5, 6#5, 7#5, 8#5, 9#5, 10#5, 11#5, 12#5, 13#5, 14#5, 15#5, 16#5, 17#5, 31#5].map
      (fun c => (decode .default8 (.fsm c)).toOption) =
    [some .sIdle, some .sStart, some .sDecStat, some .sDecSi, some .sDispatch, some .sAddrDat, some .sAddrAa,
      some .sStaClr, some .sTxdDat, some .sTxdAa, some .sRxdRead, some .sAckSet, some .sAckClr, some .sSiClr,
      some .sStopSto, some .sStopSi, some .sReturn, none, none] := by decide

/-- The table's words by format (log 6). -/
theorem test_table_words :
    [decodeTableWord 24 0x035002, decodeTableWord 24 0x000005, decodeTableWord 8 0x01, decodeTableWord 8 0x18,
      decodeTableWord 8 0x50, decodeTableWord 8 0xF8, decodeTableWord 8 0x09, decodeTableWord 8 0x100] =
    [some (.request 0x50#7 3#16), some .reserved5, some (.transmit 0#7 0#16), some .txSlawAck, some .rxDatrAck,
      some .noInfo, some .sTxdAa, none] := by decide

/-! ## Commands (V and X traces' `CMD` lines) -/

/-- P1 of 95_test_vectors.md, R124. -/
theorem test_init : answers (exec .init State.reset) (fun t => t.initDone ∧ t.fsm = .ret ∧ t.result = 0#16) := by decide
/-- V1. -/
theorem test_transmit : answers (step (presenting 0x005001#32 []))
    (fun t => t.fsm = .start ∧ t.mode = .transmit ∧ t.addrQ = 0x50#7 ∧ t.lenQ = 0#16) := by decide
/-- X7. -/
theorem test_request : answers (step (presenting 0x035002#32 []))
    (fun t => t.fsm = .start ∧ t.mode = .receive ∧ t.allocLen = 3#16 ∧ t.cursor = 0#16) := by decide
/-- R311: the buffer is replaced at entry; the cells stay. -/
theorem test_request_replaces : answers (exec (.request 0x29#7 1#16) midReceive)
    (fun t => t.cursor = 0#16 ∧ t.allocLen = 1#16 ∧ t.rxBuf = [(0, 0x11#8)]) := by decide
/-- V10's second line. -/
theorem test_available : answers (exec .available midReceive) (fun t => t.result = 1#16) := by decide
/-- X7: `READ 0`. -/
theorem test_read_stored : answers (exec (.read 0#16) midReceive) (fun t => t.result = 0x11#16) := by decide
/-- X7: at the cursor, the sentinel. -/
theorem test_read_sentinel : answers (exec (.read 1#16) midReceive) (fun t => t.result = 0#16) := by decide
/-- R127. -/
theorem test_reserved5 : answers (exec .reserved5 State.reset) (fun t => t.fault = 0b100#3 ∧ t.result = 0#16) := by decide
theorem test_reserved6 : answers (exec .reserved6 State.reset) (fun t => t.fault = 0b100#3 ∧ t.fsm = .ret) := by decide
/-- R127, V25: no event but the command word's. -/
theorem test_reserved7 : answers (step (presenting 0xFF7F07#32 []))
    (fun t => t.fault = 0b100#3 ∧ t.trace = [.cmd 0xFF7F07#32]) := by decide

/-! ## Bus primitives (R95's column of register operations) -/

theorem test_prim_start_set : answers (exec .pStartSet State.reset)
    (fun t => t.trace = [.regWrite .conset 0x20#8] ∧ t.sta) := by decide
theorem test_prim_start_clr : answers (exec .pStartClr { State.reset with ctl := 0x34#8 })
    (fun t => t.trace = [.regWrite .conclr 0x20#8] ∧ t.ctl = 0x14#8) := by decide
theorem test_prim_stop_set : answers (exec (.pStopSet .first) State.reset)
    (fun t => t.trace = [.regWrite .conset 0x10#8] ∧ t.sto) := by decide
theorem test_prim_stop_set_second : answers (exec (.pStopSet .second) State.reset)
    (fun t => t.trace = [.regWrite .conclr 0x08#8]) := by decide
theorem test_prim_stop_clr : answers (exec .pStopClr { State.reset with ctl := 0x34#8 })
    (fun t => t.trace = [.regWrite .conclr 0x10#8] ∧ t.ctl = 0x24#8) := by decide
theorem test_prim_ack_set : answers (exec .pAckSet State.reset)
    (fun t => t.trace = [.regWrite .conset 0x04#8] ∧ t.aa) := by decide
theorem test_prim_ack_clr : answers (exec .pAckClr { State.reset with ctl := 0x34#8 })
    (fun t => t.trace = [.regWrite .conclr 0x04#8] ∧ t.ctl = 0x30#8) := by decide
/-- V5: the largest address of a transmit. -/
theorem test_prim_addr_load : answers (exec (.pAddrLoad .first) { State.reset with addrQ := 0x7F#7 })
    (fun t => t.trace = [.regWrite .dat 0xFE#8]) := by decide
theorem test_prim_addr_load_second : answers (exec (.pAddrLoad .second) State.reset)
    (fun t => t.trace = [.regWrite .conset 0x04#8]) := by decide
theorem test_prim_data_write : answers (exec (.pDataWrite .first) midTransmit)
    (fun t => t.trace = [.cmd 0x025001#32, .regWrite .dat 0x02#8] ∧ t.txIdx = 1#16) := by decide
theorem test_prim_data_write_second : answers (exec (.pDataWrite .second) State.reset)
    (fun t => t.trace = [.regWrite .conset 0x04#8]) := by decide
theorem test_prim_data_read : answers (exec .pDataRead { State.reset with reads := [0x9A#32] })
    (fun t => t.trace = [.regRead .dat 0x9A#32] ∧ t.reads = []) := by decide
theorem test_prim_si_wait : answers (exec .pSiWait { State.reset with reads := [0x2C#32] })
    (fun t => t.trace = [.regRead .conset 0x2C#32]) := by decide
theorem test_prim_si_clr : answers (exec .pSiClr State.reset)
    (fun t => t.trace = [.regWrite .conclr 0x08#8]) := by decide
theorem test_prim_stat_read : answers (exec .pStatRead { State.reset with reads := [0x08#32] })
    (fun t => t.trace = [.regRead .stat 0x08#32]) := by decide
theorem test_prim_none : [Instr.pNone, .pReserved13, .pReserved14, .pReserved15].all
    (fun i => answers (exec i State.reset) (fun t => t = State.reset)) := by decide

/-! ## Dispatch rows -/

/-- V1, V5: the start rows. -/
theorem test_tx_start : answers (step (dispatching .transmit 0x08#8)) (fun t => t.fsm = .addrDat) := by decide
theorem test_tx_rstart : answers (step (dispatching .transmit 0x10#8)) (fun t => t.fsm = .addrDat) := by decide
/-- V1: no byte remains at once. -/
theorem test_tx_slaw_ack_none : answers (step (dispatching .transmit 0x18#8)) (fun t => t.fsm = .stopSto) := by decide
/-- V8: one byte remains. -/
theorem test_tx_slaw_ack : answers (step { dispatching .transmit 0x18#8 with lenQ := 1#16 })
    (fun t => t.fsm = .txdDat) := by decide
theorem test_tx_slaw_nack : answers (step (dispatching .transmit 0x20#8)) (fun t => t.fsm = .stopSto) := by decide
theorem test_tx_datw_ack : answers (step { dispatching .transmit 0x28#8 with lenQ := 2#16, txIdx := 1#16 })
    (fun t => t.fsm = .txdDat) := by decide
theorem test_tx_datw_ack_done : answers (step { dispatching .transmit 0x28#8 with lenQ := 2#16, txIdx := 2#16 })
    (fun t => t.fsm = .stopSto ∧ t.result = 0#16) := by decide
/-- V2. -/
theorem test_tx_datw_nack : answers (step { dispatching .transmit 0x30#8 with lenQ := 3#16, txIdx := 1#16 })
    (fun t => t.fsm = .stopSto ∧ t.result = 0#16) := by decide
/-- V4. -/
theorem test_tx_arb_lost : answers (step (dispatching .transmit 0x38#8))
    (fun t => t.fsm = .ret ∧ t.result = 0x38#16 ∧ t.fault = 0#3) := by decide
/-- V3. -/
theorem test_tx_bus_error : answers (step { dispatching .transmit 0x00#8 with result := 7#16 })
    (fun t => t.fsm = .stopSto ∧ t.result = 0#16) := by decide
/-- V6. -/
theorem test_tx_default : [0x40#8, 0x48#8, 0x50#8, 0x58#8].all
    (fun c => answers (step (dispatching .transmit c))
      (fun t => t.fsm = .ret ∧ t.result = c.setWidth 16 ∧ t.fault = 0b010#3 ∧ t.trace = [.dispatch (classOf c)])) := by decide
/-- V16. -/
theorem test_rx_start : answers (step (dispatching .receive 0x08#8)) (fun t => t.fsm = .addrDat) := by decide
theorem test_rx_rstart : answers (step { dispatching .receive 0x10#8 with cursor := 1#16 })
    (fun t => t.fsm = .addrDat ∧ t.cursor = 1#16) := by decide
/-- V17. -/
theorem test_rx_arb_lost : answers (step (dispatching .receive 0x38#8))
    (fun t => t.fsm = .ret ∧ t.result = 0x38#16) := by decide
/-- V12: ACK whatever the allocated length. -/
theorem test_rx_slar_ack : answers (step (dispatching .receive 0x40#8)) (fun t => t.fsm = .ackSet) := by decide
/-- V9. -/
theorem test_rx_slar_nack : answers (step (dispatching .receive 0x48#8))
    (fun t => t.fsm = .stopSto ∧ t.result = 0#16) := by decide
theorem test_rx_datr_ack : answers (step (dispatching .receive 0x50#8)) (fun t => t.fsm = .rxdRead) := by decide
theorem test_rx_datr_nack : answers (step (dispatching .receive 0x58#8)) (fun t => t.fsm = .rxdRead) := by decide
/-- V10. -/
theorem test_rx_bus_error : answers (step { dispatching .receive 0x00#8 with result := 7#16 })
    (fun t => t.fsm = .stopSto ∧ t.result = 0#16) := by decide
/-- V15. -/
theorem test_rx_default : [0x18#8, 0x20#8, 0x28#8, 0x30#8].all
    (fun c => answers (step (dispatching .receive c))
      (fun t => t.fsm = .ret ∧ t.result = c.setWidth 16 ∧ t.fault = 0b010#3 ∧ t.trace = [.dispatch (classOf c)])) := by decide
/-- V7, for the nineteen codes. -/
theorem test_unclassified : [0x60#8, 0x68#8, 0x70#8, 0x78#8, 0x80#8, 0x88#8, 0x90#8, 0x98#8, 0xA0#8, 0xA8#8, 0xB0#8,
    0xB8#8, 0xC0#8, 0xC8#8, 0xD0#8, 0xD8#8, 0xE0#8, 0xE8#8, 0xF0#8].all
    (fun c => answers (step (dispatching .transmit c))
      (fun t => t.fsm = .ret ∧ t.result = c.setWidth 16 ∧ t.fault = 0b010#3 ∧
        t.trace = [.dispatch .unclassified])) := by decide
theorem test_no_info : answers (exec .noInfo (standing .decSi)) (fun t => t.fsm = .decStat ∧ t.statQ = 0xF8#8) := by decide

/-! ## Sequencer states -/

theorem test_idle_without_command : answers (step State.reset) (fun t => t = State.reset) := by decide
/-- V8: the host's byte is shown. -/
theorem test_idle_shows_data : answers (exec .sIdle (presenting 0x010001#32 [0xFF#8]))
    (fun t => t.trace = [.cmd 0x010001#32] ∧ t.txByte = 0xFF#8 ∧ t.cmds = []) := by decide
theorem test_s_start : answers (step (standing .start))
    (fun t => t.fsm = .decStat ∧ t.trace = [.regWrite .conset 0x20#8]) := by decide
/-- V21, R98: reserved bits masked. -/
theorem test_s_dec_stat : answers (step { standing .decStat with reads := [0x1234560F#32] })
    (fun t => t.fsm = .decSi ∧ t.statQ = 0x08#8) := by decide
theorem test_s_dec_stat_polls : answers (step { standing .decStat with statQ := 0x28#8, reads := [0xFF#32] })
    (fun t => t.fsm = .decStat ∧ t.statQ = 0x28#8) := by decide
theorem test_s_dec_si : answers (step { standing .decSi with reads := [0x08#32] }) (fun t => t.fsm = .dispatch) := by decide
theorem test_s_dec_si_polls : answers (step { standing .decSi with reads := [0xFFFFFFF7#32] })
    (fun t => t.fsm = .decSi) := by decide
/-- X7: `{0x50, 1}`. -/
theorem test_s_addr_dat : answers (step { standing .addrDat with mode := .receive, addrQ := 0x50#7 })
    (fun t => t.fsm = .addrAa ∧ t.trace = [.regWrite .dat 0xA1#8]) := by decide
/-- V1 clears START, X7 does not. -/
theorem test_s_addr_aa_transmit : answers (step (standing .addrAa)) (fun t => t.fsm = .staClr) := by decide
theorem test_s_addr_aa_receive : answers (step { standing .addrAa with mode := .receive })
    (fun t => t.fsm = .siClr ∧ t.trace = [.regWrite .conset 0x04#8]) := by decide
theorem test_s_sta_clr : answers (step (standing .staClr))
    (fun t => t.fsm = .siClr ∧ t.trace = [.regWrite .conclr 0x20#8]) := by decide
theorem test_s_txd_dat : answers (step midTransmit)
    (fun t => t.fsm = .txdAa ∧ t.txIdx = 2#16 ∧ t.trace = [.cmd 0x025001#32, .regWrite .dat 0x02#8]) := by decide
theorem test_s_txd_aa : answers (step (standing .txdAa))
    (fun t => t.fsm = .siClr ∧ t.trace = [.regWrite .conset 0x04#8]) := by decide
/-- V13: the last byte that fits is stored and NACK is chosen. -/
theorem test_s_rxd_read : answers (step midReceive)
    (fun t => t.fsm = .ackClr ∧ t.cursor = 2#16 ∧ t.rxBuf = [(0, 0x11#8), (1, 0x22#8)] ∧ t.fault = 0#3) := by decide
/-- V12: length 0, data received with nack: dropped, the sticky bit, STOP. -/
theorem test_s_rxd_read_overrun : answers (step { standing .rxdRead with mode := .receive, statQ := 0x58#8, reads := [0x44#32] })
    (fun t => t.fsm = .stopSto ∧ t.cursor = 0#16 ∧ t.rxBuf = [] ∧ t.fault = 0b001#3 ∧
      t.trace = [.regRead .dat 0x44#32, .faultSet .rxOverrun]) := by decide
theorem test_s_ack_set : answers (step (standing .ackSet))
    (fun t => t.fsm = .siClr ∧ t.trace = [.regWrite .conset 0x04#8]) := by decide
theorem test_s_ack_clr : answers (step (standing .ackClr))
    (fun t => t.fsm = .siClr ∧ t.trace = [.regWrite .conclr 0x04#8]) := by decide
theorem test_s_si_clr : answers (step (standing .siClr))
    (fun t => t.fsm = .decStat ∧ t.trace = [.regWrite .conclr 0x08#8]) := by decide
theorem test_s_stop_sto : answers (step (standing .stopSto))
    (fun t => t.fsm = .stopSi ∧ t.trace = [.regWrite .conset 0x10#8]) := by decide
theorem test_s_stop_si : answers (step (standing .stopSi))
    (fun t => t.fsm = .ret ∧ t.trace = [.regWrite .conclr 0x08#8]) := by decide
theorem test_s_return : answers (step { standing .ret with result := 0x38#16 })
    (fun t => t.fsm = .idle ∧ t.trace = [.rsp 0x38#16]) := by decide
/-- V27's shape: reset in the middle of a receive. -/
theorem test_reset_input : answers (step { midReceive with rst := true })
    (fun t => t.fsm = .idle ∧ t.cursor = 0#16 ∧ t.statQ = 0xF8#8 ∧ t.rxBuf = []) := by decide

/-- Placed words run as the first instruction after reset. -/
theorem test_placed_command : answers (step (State.reset.withFetchWord 24 0x000001)) (fun t => t.fsm = .start) := by decide
theorem test_placed_status : answers (step (State.reset.withFetchWord 8 0x38))
    (fun t => t.result = 0x38#16 ∧ t.trace = [.dispatch .arbLost]) := by decide

/-! ## Witnesses of the statements' hypotheses -/

theorem witness_midReceive_inv : midReceive.Inv :=
  ⟨by decide, by decide, by decide, by decide, by decide, by decide, by decide, by decide, by decide, by decide, by decide,
    by decide, ⟨rfl, .inl rfl⟩⟩

theorem witness_midReceive_bufferInv : midReceive.BufferInv := ⟨by decide, by decide⟩

theorem witness_midTransmit_inv : midTransmit.Inv :=
  ⟨by decide, by decide, by decide, by decide, by decide, by decide, by decide, by decide, by decide, by decide, by decide,
    by decide, ⟨rfl, by decide⟩⟩

theorem witness_ResetInputOverridesEveryState : ∃ s : State, s.rst = true ∧ s.fsm = .rxdRead :=
  ⟨{ midReceive with rst := true }, rfl, rfl⟩

theorem witness_StepKeepsTheInvariant : ∃ s t : State, s.Inv ∧ step s = .next t :=
  ⟨midReceive, _, witness_midReceive_inv, rfl⟩

theorem witness_StepKeepsTheInvariant_transmit : ∃ s t : State, s.Inv ∧ step s = .next t :=
  ⟨midTransmit, _, witness_midTransmit_inv, rfl⟩

theorem witness_StepKeepsBufferEqualToBytesRead : ∃ s t : State, s.Inv ∧ s.BufferInv ∧ step s = .next t :=
  ⟨midReceive, _, witness_midReceive_inv, witness_midReceive_bufferInv, rfl⟩

theorem witness_InvariantStepNeverStops : ∃ s : State, s.Inv := ⟨midReceive, witness_midReceive_inv⟩

/-- The first cell that does not exist, for the default width. -/
theorem witness_NonexistentCellStops :
    (∃ (s : State) (n : Len), n < s.cursor ∧ s.lenW.cells ≤ n.toNat) ∧
    (∃ s : State, s.cursor < s.allocLen ∧ s.lenW.cells ≤ s.cursor.toNat) :=
  ⟨⟨{ State.reset with cursor := 257#16 }, 256#16, by decide, by decide⟩,
    ⟨{ State.reset with cursor := 256#16, allocLen := 257#16 }, by decide, by decide⟩⟩

theorem witness_StepRunsTheDecodedStateRow :
    ∃ (s : State) (i : Instr), s.rst = false ∧ decode s.lenW (.fsm s.fsm.code) = .ok i :=
  ⟨standing .ret, .sReturn, rfl, rfl⟩

theorem witness_IdleStepRunsTheDecodedCommand :
    (∃ (s : State) (c : HostCmd) (q : List HostCmd) (i : Instr), s.rst = false ∧ s.fsm = .idle ∧ s.cmds = c :: q ∧
      decode s.lenW (.cmd c.word) = .ok i) ∧
    (∃ s : State, s.rst = false ∧ s.fsm = .idle ∧ s.cmds = []) :=
  ⟨⟨presenting 0x035002#32 [], ⟨0x035002#32, []⟩, [], .request 0x50#7 3#16, rfl, rfl, rfl, rfl⟩,
    ⟨State.reset, rfl, rfl, rfl⟩⟩

theorem witness_DispatchStepRunsTheDecodedRow :
    ∃ (s : State) (i : Instr), s.rst = false ∧ s.fsm = .dispatch ∧ s.statQ.getLsbD 0 = false ∧ s.statQ.getLsbD 1 = false ∧
      s.statQ.getLsbD 2 = false ∧ s.statQ ≠ 0xF8#8 ∧ decode s.lenW (.stat s.mode s.statQ) = .ok i :=
  ⟨dispatching .receive 0x40#8, .rxSlarAck, rfl, rfl, rfl, rfl, rfl, by decide, rfl⟩

/-- One word for each format, at the ranges' bounds. -/
theorem witness_PlacedTableWordIsRun : State.reset.lenW = .default8 ∧
    tableRawWord 24 0x035002 = some (.cmd 0x035002#32) ∧ tableRawWord 8 7 = some (.cmd 7#32) ∧
    tableRawWord 8 8 = some (.stat .transmit 0x08#8) ∧ tableRawWord 8 9 = some (.fsm 9#5) ∧
    tableRawWord 8 15 = some (.fsm 15#5) ∧ tableRawWord 8 16 = some (.stat .transmit 0x10#8) ∧
    tableRawWord 8 0x40 = some (.stat .receive 0x40#8) ∧ tableRawWord 8 0x5F = some (.stat .receive 0x5F#8) ∧
    tableRawWord 8 0xF8 = some (.stat .transmit 0xF8#8) := by decide

/-- A step that writes, one that reads, one that does neither; for every statement about all steps with `rst` released. -/
theorem witness_StepPerformsTheMultiplexersOperation :
    (∃ s t : State, s.rst = false ∧ s.fsm = .txdDat ∧ step s = .next t) ∧
    (∃ s t : State, s.rst = false ∧ s.fsm = .rxdRead ∧ step s = .next t) ∧
    (∃ s t : State, s.rst = false ∧ s.fsm = .dispatch ∧ step s = .next t) :=
  ⟨⟨midTransmit, _, rfl, rfl, rfl⟩, ⟨midReceive, _, rfl, rfl, rfl⟩, ⟨dispatching .transmit 0x38#8, _, rfl, rfl, rfl⟩⟩

theorem witness_SuccessorsAreTheTables : ∃ s t : State, s.rst = false ∧ step s = .next t := ⟨midReceive, _, rfl, rfl⟩

theorem witness_ControlWritesAreTheListedSix : ∃ s t : State, step s = .next t ∧ Event.regWrite .conset 0x20#8 ∈ t.trace :=
  ⟨standing .start, _, rfl, by decide⟩

/-- Each bit is set by a step; a status with a row in the other table only sets bit 1, one with a row of its own does not. -/
theorem witness_FaultBitsAreStickyAndSetByTheirRules :
    (∃ s t : State, s.rst = false ∧ step s = .next t ∧ t.fault.getLsbD 0 = true) ∧
    (∃ s t : State, s.rst = false ∧ step s = .next t ∧ t.fault.getLsbD 1 = true) ∧
    (∃ s t : State, s.rst = false ∧ step s = .next t ∧ t.fault.getLsbD 2 = true) ∧
    (∃ t, step (dispatching .transmit 0x40#8) = .next t ∧ t.fault = 2#3) ∧
    (∃ t, step (dispatching .receive 0x18#8) = .next t ∧ t.fault = 2#3) ∧
    (∃ t, step (dispatching .receive 0x40#8) = .next t ∧ t.fault = 0#3) :=
  ⟨⟨{ midReceive with cursor := 2#16 }, _, rfl, rfl, by decide⟩, ⟨dispatching .transmit 0x60#8, _, rfl, rfl, by decide⟩,
    ⟨presenting 5#32 [], _, rfl, rfl, by decide⟩, ⟨_, rfl, by decide⟩, ⟨_, rfl, by decide⟩, ⟨_, rfl, by decide⟩⟩

theorem witness_InitDoneIsSetByInitAlone :
    ∃ s t : State, s.rst = false ∧ step s = .next t ∧ s.initDone = false ∧ t.initDone = true :=
  ⟨presenting 0#32 [], _, rfl, rfl, rfl, rfl⟩

theorem witness_ModeAddressLengthWrittenAtAcceptanceOnly : ∃ s t : State, s.rst = false ∧ step s = .next t ∧ t.mode ≠ s.mode :=
  ⟨presenting 0x035002#32 [], _, rfl, rfl, by decide⟩

theorem witness_BufferChangesOnlyByRequestAndStore :
    ∃ s t : State, s.rst = false ∧ s.rxBuf.wf = true ∧ s.Inv ∧ step s = .next t ∧ t.rxBuf ≠ s.rxBuf :=
  ⟨midReceive, _, rfl, rfl, witness_midReceive_inv, rfl, by decide⟩

theorem witness_OtherReadBitsHaveNoInfluence :
    (∃ (s : State) (v w : RegWord) (t : State), v ≠ w ∧ s.rst = false ∧ s.fsm = .decStat ∧
      (∀ i, 3 ≤ i → i < 8 → v.getLsbD i = w.getLsbD i) ∧ step { s with reads := [v] } = .next t) ∧
    (∃ (s : State) (v w : RegWord) (t : State), v ≠ w ∧ s.rst = false ∧ s.fsm = .decSi ∧ v.getLsbD 3 = w.getLsbD 3 ∧
      step { s with reads := [v] } = .next t) ∧
    (∃ (s : State) (v w : RegWord) (t : State), v ≠ w ∧ s.rst = false ∧ s.fsm = .rxdRead ∧
      (∀ i < 8, v.getLsbD i = w.getLsbD i) ∧ step { s with reads := [v] } = .next t) :=
  ⟨⟨standing .decStat, 0x08#32, 0x10F#32, _, by decide, rfl, rfl, by
      intro i h3 h8; interval_cases i <;> decide, rfl⟩,
    ⟨standing .decSi, 0x08#32, 0xFFFFFFFF#32, _, by decide, rfl, rfl, by decide, rfl⟩,
    ⟨midReceive, 0xAA#32, 0x1AA#32, _, by decide, rfl, rfl, by decide, rfl⟩⟩

theorem witness_NonzeroResponseOnlyOnLossOrDefault :
    (∃ s t : State, s.rst = false ∧ s.fsm = .dispatch ∧ step s = .next t ∧ t.fsm = .ret ∧ t.result ≠ 0#16 ∧
      s.statQ = 0x38#8) ∧
    (∃ s t : State, s.rst = false ∧ s.fsm = .dispatch ∧ step s = .next t ∧ t.fsm = .ret ∧ t.result ≠ 0#16 ∧
      s.statQ = 0x60#8) :=
  ⟨⟨dispatching .transmit 0x38#8, _, rfl, rfl, rfl, rfl, by decide, rfl⟩,
    ⟨dispatching .receive 0x60#8, _, rfl, rfl, rfl, rfl, by decide, rfl⟩⟩

/-- Below the cursor, at it, and the largest index. -/
theorem witness_ReadAnswersStoredByteOrSentinel :
    (Instr.read 0#16).wellFormed midReceive.lenW = true ∧ 0#16 < midReceive.cursor ∧ midReceive.rxBuf.read 0 = some 0x11#8 ∧
    (Instr.read 1#16).wellFormed midReceive.lenW = true ∧ midReceive.cursor ≤ 1#16 ∧
    (Instr.read 255#16).wellFormed midReceive.lenW = true ∧ midReceive.cursor ≤ 255#16 := by decide

theorem witness_CompoundPrimitivesWriteInOrder : midTransmit.txMem.read midTransmit.txIdx.toNat = some 0x02#8 := by decide

theorem witness_ReadPrimitivesReadOnce : ∃ (s : State) (v : RegWord) (q : List RegWord), s.reads = v :: q :=
  ⟨midReceive, 0x22#32, [], rfl⟩

theorem witness_ReadPrimitivesCompleteOnAFreeAnswer : State.reset.reads = [] := rfl

theorem witness_ReservedOpcodesSetIllegalCmd : ∃ i : Instr, i = .reserved5 ∨ i = .reserved6 ∨ i = .reserved7 :=
  ⟨.reserved7, .inr (.inr rfl)⟩

theorem witness_ControlPrimitivesWriteOneMask :
    (Instr.pStopClr, RegName.conclr, 0x10#8) ∈ [(Instr.pStartSet, RegName.conset, 0x20#8), (.pStartClr, .conclr, 0x20#8),
      (.pStopClr, .conclr, 0x10#8), (.pAckSet, .conset, 0x04#8), (.pAckClr, .conclr, 0x04#8), (.pSiClr, .conclr, 0x08#8)] := by
  decide

theorem witness_EmptySelectsDoNothing : Instr.pReserved15 ∈ [Instr.pNone, .pReserved13, .pReserved14, .pReserved15] := by
  decide

theorem witness_StartRowsLoadTheAddress : Instr.rxRstart ∈ [Instr.txStart, .txRstart, .rxStart, .rxRstart] := by decide

theorem witness_NackedRowsStopWithSuccess : Instr.rxSlarNack ∈ [Instr.txSlawNack, .txDatwNack, .rxSlarNack] := by decide

theorem witness_FailureRowsReturnTheRawCode :
    Instr.rxArbLost ∈ [Instr.txArbLost, .rxArbLost] ∧ Instr.rxBusError ∈ [Instr.txBusError, .rxBusError] := by decide

theorem witness_DefaultRowsFailLoudly : ∃ i : Instr, i ∈ [Instr.txDefaultSlarAck, .rxDefaultDatwNack, .unclassifiedF0] :=
  ⟨.unclassifiedF0, by decide⟩

theorem witness_SingleWriteStatesWriteAndGoOn :
    (Instr.sStopSi, RegName.conclr, 0x08#8, SeqState.ret) ∈ [(Instr.sStart, RegName.conset, 0x20#8, SeqState.decStat),
      (.sStopSi, .conclr, 0x08#8, .ret)] := by decide

/-- One byte remains, and none remains. -/
theorem witness_AckedRowsLoadOrStop : (∃ s : State, s.txIdx.toNat < s.lenQ.toNat) ∧ (∃ s : State, s.lenQ.toNat ≤ s.txIdx.toNat) :=
  ⟨⟨midTransmit, by decide⟩, ⟨{ midTransmit with txIdx := 2#16 }, by decide⟩⟩

theorem witness_IdleAcceptsEveryWord :
    (∃ s : State, s.cmds = []) ∧ (∃ (s : State) (c : HostCmd) (q : List HostCmd), s.cmds = c :: q) :=
  ⟨⟨State.reset, rfl⟩, ⟨presenting 4#32 [], ⟨4#32, []⟩, [], rfl⟩⟩

/-- One state for each clause; both sides of `tx_idx < len_q`. -/
theorem witness_DispatchFollowsTheTables :
    (∃ s : State, s.statQ ≠ 0xF8#8 ∧ s.statQ ∈ [0x08#8, 0x10#8]) ∧ (∃ s : State, s.statQ ≠ 0xF8#8 ∧ s.statQ = 0x38#8) ∧
    (∃ s : State, s.statQ ≠ 0xF8#8 ∧ s.statQ = 0x00#8) ∧
    (∃ s : State, s.statQ ≠ 0xF8#8 ∧ s.mode = .transmit ∧ s.statQ ∈ [0x18#8, 0x28#8] ∧ s.txIdx < s.lenQ) ∧
    (∃ s : State, s.statQ ≠ 0xF8#8 ∧ s.mode = .transmit ∧ s.statQ ∈ [0x18#8, 0x28#8] ∧ ¬ s.txIdx < s.lenQ) ∧
    (∃ s : State, s.statQ ≠ 0xF8#8 ∧ s.mode = .transmit ∧ s.statQ ∈ [0x20#8, 0x30#8]) ∧
    (∃ s : State, s.statQ ≠ 0xF8#8 ∧ s.mode = .receive ∧ s.statQ = 0x40#8) ∧
    (∃ s : State, s.statQ ≠ 0xF8#8 ∧ s.mode = .receive ∧ s.statQ = 0x48#8) ∧
    (∃ s : State, s.statQ ≠ 0xF8#8 ∧ s.mode = .receive ∧ s.statQ ∈ [0x50#8, 0x58#8]) ∧
    (∃ s : State, s.statQ ≠ 0xF8#8 ∧ s.mode = .transmit ∧ s.statQ ∈ [0x40#8, 0x48#8, 0x50#8, 0x58#8]) ∧
    (∃ s : State, s.statQ ≠ 0xF8#8 ∧ s.mode = .receive ∧ s.statQ ∈ [0x18#8, 0x20#8, 0x28#8, 0x30#8]) ∧
    (∃ s : State, s.statQ ≠ 0xF8#8 ∧ s.statQ ∉ [0x00#8, 0x08#8, 0x10#8, 0x18#8, 0x20#8, 0x28#8, 0x30#8, 0x38#8, 0x40#8,
      0x48#8, 0x50#8, 0x58#8]) :=
  ⟨⟨dispatching .transmit 0x10#8, by decide⟩, ⟨dispatching .transmit 0x38#8, by decide⟩,
    ⟨dispatching .transmit 0x00#8, by decide⟩, ⟨{ dispatching .transmit 0x18#8 with lenQ := 1#16 }, by decide⟩,
    ⟨dispatching .transmit 0x28#8, by decide⟩, ⟨dispatching .transmit 0x30#8, by decide⟩,
    ⟨dispatching .receive 0x40#8, by decide⟩, ⟨dispatching .receive 0x48#8, by decide⟩,
    ⟨dispatching .receive 0x58#8, by decide⟩, ⟨dispatching .transmit 0x58#8, by decide⟩,
    ⟨dispatching .receive 0x18#8, by decide⟩, ⟨dispatching .receive 0xF0#8, by decide⟩⟩

theorem witness_TransmitDataStateSendsTheIndexedByte : midTransmit.txMem.read midTransmit.txIdx.toNat = some 0x02#8 := by decide

/-- No-new-state and the two codes beside it. -/
theorem witness_DecoderPhaseOneLatchesOrPolls :
    (0xFF#32).setWidth 8 &&& 0xF8#8 = 0xF8#8 ∧ (0xF7#32).setWidth 8 &&& 0xF8#8 ≠ 0xF8#8 ∧
    { State.reset with reads := [0xFF#32] }.regRdata = 0xFF#32 ∧ { State.reset with reads := [0xF7#32] }.regRdata = 0xF7#32 := by
  decide

theorem witness_DecoderPhaseTwoPollsTheFlag : { State.reset with reads := [0x08#32] }.regRdata = 0x08#32 := by decide

/-- The last cell that is allocated, and none left; both statuses. -/
theorem witness_ReceiveStateStoresAndChooses :
    (∃ s : State, s.rxBuf.wf = true ∧ (s.cursor < s.allocLen → s.cursor.toNat < s.lenW.cells) ∧ s.statQ = 0x50#8 ∧
      s.cursor < s.allocLen) ∧
    (∃ s : State, s.rxBuf.wf = true ∧ (s.cursor < s.allocLen → s.cursor.toNat < s.lenW.cells) ∧ s.statQ = 0x58#8 ∧
      ¬ s.cursor < s.allocLen) :=
  ⟨⟨midReceive, by decide⟩, ⟨{ midReceive with cursor := 2#16, statQ := 0x58#8 }, by decide⟩⟩

theorem witness_ReturnAnswersTheResult : (standing .ret).fsm = .ret := rfl

/-- The largest operand of the narrowest, the default and the widest instance. -/
theorem witness_DecodeOfEncodeIsTheInstruction :
    (Instr.transmit 0x7F#7 1#16).wellFormed ⟨1, by decide, by decide⟩ = true ∧
    (Instr.request 0x7F#7 255#16).wellFormed .default8 = true ∧
    (Instr.read 65535#16).wellFormed ⟨16, by decide, by decide⟩ = true ∧
    encode .unclassified60 = .stat .transmit 0x60#8 ∧ 0x60#8 ≤ 0x60#8 := by decide

theorem witness_DecodeGivesWellFormedOrRejects :
    decode .default8 (.cmd 0xFF0004#32) = .ok (.read 255#16) ∧ 17 ≤ (17#5).toNat ∧ ¬ 17 ≤ (16#5).toNat ∧
    (12#4).toNat ∈ [1, 2, 4, 5, 6, 9, 10, 11, 12] ∧ (3#4).toNat ∉ [1, 2, 4, 5, 6, 9, 10, 11, 12] := by
  refine ⟨rfl, ?_⟩
  decide

theorem witness_UnusedCommandBitsAreIgnored :
    (CmdWord.op 0x000004#32).toNat ∉ [1, 2] ∧ (CmdWord.op 0x000003#32).toNat ∉ [1, 2, 4] := by decide

theorem witness_ClassificationIsTheTable : classOf 0xF8#8 ≠ .unclassified := by decide

theorem witness_DecoderWaitsInTwoPhases :
    ∃ (s : State) (polls flags : List RegWord) (v c : RegWord) (rest : List RegWord), s.rst = false ∧ s.fsm = .decStat ∧
      (∀ p ∈ polls, p.setWidth 8 &&& 0xF8#8 = 0xF8#8) ∧ v.setWidth 8 &&& 0xF8#8 ≠ 0xF8#8 ∧
      (∀ f ∈ flags, f.getLsbD 3 = false) ∧ c.getLsbD 3 = true ∧ s.reads = polls ++ v :: (flags ++ c :: rest) :=
  ⟨{ standing .decStat with reads := [0xF8#32, 0xFF#32, 0x0B#32, 0x20#32, 0x28#32, 0x11#32] },
    [0xF8#32, 0xFF#32], [0x20#32], 0x0B#32, 0x28#32, [0x11#32], rfl, rfl, by simp, by decide, by simp, by decide, rfl⟩

theorem witness_DecoderHangsWithoutStatusOrFlag :
    (∃ (s : State) (polls rest : List RegWord), s.rst = false ∧ s.reads = polls ++ rest ∧ s.fsm = .decStat ∧ polls ≠ [] ∧
      (∀ p ∈ polls, p.setWidth 8 &&& 0xF8#8 = 0xF8#8)) ∧
    (∃ (s : State) (polls rest : List RegWord), s.rst = false ∧ s.reads = polls ++ rest ∧ s.fsm = .decSi ∧ polls ≠ [] ∧
      (∀ p ∈ polls, p.getLsbD 3 = false)) :=
  ⟨⟨{ standing .decStat with reads := [0xF8#32, 0xFF#32] }, [0xF8#32, 0xFF#32], [], rfl, rfl, rfl, by simp, by simp⟩,
    ⟨{ standing .decSi with reads := [0x20#32, 0x00#32] }, [0x20#32, 0x00#32], [], rfl, rfl, rfl, by simp, by simp⟩⟩

theorem witness_StartRowsToTheirEnd :
    (∃ s : State, s.rst = false ∧ s.fsm = .dispatch ∧ s.statQ = 0x08#8 ∧ s.mode = .transmit) ∧
    (∃ s : State, s.rst = false ∧ s.fsm = .dispatch ∧ s.statQ = 0x10#8 ∧ s.mode = .receive) :=
  ⟨⟨dispatching .transmit 0x08#8, by decide⟩, ⟨dispatching .receive 0x10#8, by decide⟩⟩

theorem witness_StopThenFlagClearThenResponse : ∃ s : State, s.rst = false ∧ s.fsm = .stopSto := ⟨standing .stopSto, by decide⟩

theorem witness_ArbitrationLossAbortsAtOnce : ∃ s : State, s.rst = false ∧ s.fsm = .dispatch ∧ s.statQ = 0x38#8 :=
  ⟨dispatching .receive 0x38#8, by decide⟩

theorem witness_StaleStatusEndsTheNextCommand :
    (∃ (s : State) (o : BitVec 3) (a : Addr) (n : Len) (d : List Byte) (q : List HostCmd) (rest : List RegWord),
      s.rst = false ∧ s.fsm = .idle ∧ o = 1#3 ∧ s.cmds = ⟨CmdWord.mk o a n, d⟩ :: q ∧
      s.reads = decodeReads 0x38#8 ++ rest) ∧
    (∃ (s : State) (o : BitVec 3) (a : Addr) (n : Len) (d : List Byte) (q : List HostCmd) (rest : List RegWord),
      s.rst = false ∧ s.fsm = .idle ∧ o = 2#3 ∧ s.cmds = ⟨CmdWord.mk o a n, d⟩ :: q ∧
      s.reads = decodeReads 0x38#8 ++ rest) :=
  ⟨⟨{ presenting 0x015001#32 [0x07#8] with reads := [0x38#32, 0x08#32] }, 1#3, 0x50#7, 1#16, [0x07#8], [], [], by decide⟩,
    ⟨{ presenting 0x035002#32 [] with reads := [0x38#32, 0x08#32] }, 2#3, 0x50#7, 3#16, [], [], [], by decide⟩⟩

/-- V8's transmit of one byte, and the longest of the narrowest instance. -/
theorem witness_AckedTransmitSendsEveryByteThenStops :
    (∃ (s : State) (a : Addr) (data : List Byte) (q : List HostCmd) (rest : List RegWord),
      s.rst = false ∧ s.fsm = .idle ∧ data.length < s.lenW.cells ∧
      s.cmds = ⟨CmdWord.mk 1#3 a (BitVec.ofNat 16 data.length), data⟩ :: q ∧
      s.reads = transmitAckedReads data.length ++ rest) ∧
    (∃ (s : State) (a : Addr) (data : List Byte) (q : List HostCmd) (rest : List RegWord),
      s.lenW.val = 1 ∧ data ≠ [] ∧ s.rst = false ∧ s.fsm = .idle ∧ data.length < s.lenW.cells ∧
      s.cmds = ⟨CmdWord.mk 1#3 a (BitVec.ofNat 16 data.length), data⟩ :: q ∧
      s.reads = transmitAckedReads data.length ++ rest) :=
  ⟨⟨{ presenting 0x010001#32 [0xFF#8] with reads := [0x08#32, 0x08#32, 0x18#32, 0x08#32, 0x28#32, 0x08#32] },
      0#7, [0xFF#8], [], [], by decide⟩,
    ⟨{ presenting 0x010001#32 [0xFF#8] with
        lenW := ⟨1, by decide, by decide⟩, reads := [0x08#32, 0x08#32, 0x18#32, 0x08#32, 0x28#32, 0x08#32] },
      0#7, [0xFF#8], [], [], by decide⟩⟩

/-- V19's receive of two bytes. -/
theorem witness_SuccessfulRequestReturnsTheBytes :
    ∃ (s : State) (a : Addr) (front : List Byte) (last : Byte) (d : List Byte) (q : List HostCmd) (rest : List RegWord),
      s.rst = false ∧ s.fsm = .idle ∧ s.rxBuf.wf = true ∧ front.length + 1 < s.lenW.cells ∧
      s.cmds = ⟨CmdWord.mk 2#3 a (BitVec.ofNat 16 (front.length + 1)), d⟩ :: q ∧ s.reads = requestReads front last ++ rest :=
  ⟨{ presenting 0x025002#32 [] with
      reads := [0x08#32, 0x08#32, 0x40#32, 0x08#32, 0x50#32, 0x08#32, 0x11#32, 0x58#32, 0x08#32, 0x22#32] },
    0x50#7, [0x11#8], 0x22#8, [], [], [], by decide⟩

end Sys2Proof.Tests
end

section
/-! SUPPORT. The proofs of the statements on the state (10_state.md): what reset shows, the invariant of every reachable
state, and which steps write the fault bits, `init_done` and the transaction registers. -/

namespace Sys2Proof.Machine

/-! ## Reset -/

/-- The reset of any state meets the invariant: the registers by their reset values, TXMEM and the control image, which
reset keeps, by what they were. -/
theorem applyReset_inv {s : State} (htx : s.txMem.wf = true) (hctl : s.ctl &&& 0xCB#8 = 0#8) : s.applyReset.Inv where
  lenFits := s.lenW.cells_pos
  txFits := s.lenW.cells_pos
  allocFits := s.lenW.cells_pos
  cursorLe := Nat.le_refl 0
  txLe _ := Nat.le_refl 0
  rxLen hm := nomatch hm
  bufWf := rfl
  txMemWf := htx
  bufRange _ hc := nomatch hc
  bufFilled _ hi := absurd hi (Nat.not_lt_zero _)
  statMasked := show maskStatus Config.stNoInfo = Config.stNoInfo by decide
  ctlBits := hctl
  path := trivial

/-- Nothing is received and nothing is allocated after reset. -/
theorem reset_bufferInv : State.reset.BufferInv where
  count := rfl
  cells _ hi := absurd hi (Nat.not_lt_zero _)

/-! ## The invariant: what each operation of a step keeps

`Inv` speaks of the registers through `lenW`, the lengths, the two memories and the cursor. A step that writes none of
them has only the masked status, the control image and the path condition to show: `Inv.of_frame`. -/

/-! The path condition, read off in the states whose step uses it. -/

theorem State.Inv.of_decSi {s : State} (h : s.Inv) (hf : s.fsm = .decSi) : s.statQ ≠ Config.stNoInfo := by
  simpa only [State.pathOk, hf] using h.path

theorem State.Inv.of_txdDat {s : State} (h : s.Inv) (hf : s.fsm = .txdDat) :
    s.mode = .transmit ∧ s.txIdx < s.lenQ := by
  simpa only [State.pathOk, hf] using h.path

theorem State.Inv.of_rxdRead {s : State} (h : s.Inv) (hf : s.fsm = .rxdRead) :
    s.mode = .receive ∧ (s.statQ = Config.stDatrAck ∨ s.statQ = Config.stDatrNack) := by
  simpa only [State.pathOk, hf] using h.path

/-- The invariant passes to a state that keeps the lengths, the indices, the mode and the two memories. -/
theorem State.Inv.of_frame {s t : State} (h : s.Inv)
    (ht : t = { s with
      fsm := t.fsm, statQ := t.statQ, result := t.result, fault := t.fault, initDone := t.initDone, ctl := t.ctl,
      rst := t.rst, cmds := t.cmds, reads := t.reads, tick := t.tick, trace := t.trace })
    (hst : maskStatus t.statQ = t.statQ) (hctl : t.ctl &&& 0xCB#8 = 0#8) (hp : t.pathOk) : t.Inv := by
  rw [ht] at hst hctl hp ⊢
  exact { h with statMasked := hst, ctlBits := hctl, path := hp }

/-- A write whose byte, where it goes to `CONSET`, asserts START, STOP and ACK-enable only keeps the other control bits
clear (R33). -/
theorem ctlAfterWrite_ctlBits {ctl v : Byte} {r : RegName} (h : ctl &&& 0xCB#8 = 0#8)
    (hv : r = .conset → v &&& 0xCB#8 = 0#8) : ctlAfterWrite ctl r v &&& 0xCB#8 = 0#8 := by
  cases r with
  | conset => simp only [ctlAfterWrite, BitVec.and_or_distrib_right, h, hv rfl, BitVec.or_zero]
  | conclr =>
    simp only [ctlAfterWrite]
    rw [BitVec.and_assoc, BitVec.and_comm (~~~v), ← BitVec.and_assoc, h, BitVec.zero_and]
  | stat => exact h
  | dat => exact h

/-- A register write followed by a change of state keeps the invariant. -/
theorem State.Inv.regWrite_goto {s : State} {r : RegName} {v : Byte} {f : SeqState} (h : s.Inv)
    (hv : r = .conset → v &&& 0xCB#8 = 0#8) (hp : (s.goto f).pathOk) : ((s.regWrite r v).goto f).Inv :=
  h.of_frame rfl h.statMasked (ctlAfterWrite_ctlBits h.ctlBits hv) hp

/-- A register read followed by a change of state keeps the invariant. -/
theorem State.Inv.regRead_goto {s : State} {r : RegName} {f : SeqState} (h : s.Inv) (hp : (s.goto f).pathOk) :
    ((s.regRead r).goto f).Inv :=
  h.of_frame rfl h.statMasked h.ctlBits hp

theorem State.Inv.log {s : State} (h : s.Inv) (e : Event) : (s.log e).Inv :=
  h.of_frame rfl h.statMasked h.ctlBits h.path

/-- Taking a command from the port keeps the invariant: the host's bytes are canonical. -/
theorem State.Inv.accept {s : State} (h : s.Inv) (c : HostCmd) (q : List HostCmd) : (s.accept c q).Inv :=
  { h with txMemWf := Memory.ofBytes_wf c.data }

/-- Every command keeps the invariant (R128, R222). -/
theorem runCommand_keeps_inv {w : BitVec 32} {s t : State} (h : s.Inv) (ht : runCommand w s = .next t) : t.Inv := by
  obtain ⟨u, hu, hk⟩ := runCommand_cases w s
  rw [hu] at ht
  cases ht
  rcases hk with ⟨-, rfl⟩ | ⟨-, rfl⟩ | ⟨-, rfl⟩ | ⟨-, hfin⟩ | ⟨-, rfl⟩
  · exact h.of_frame rfl h.statMasked h.ctlBits trivial
  · exact { h with
      lenFits := CmdWord.n_lt s.lenW w
      txFits := s.lenW.cells_pos
      txLe := fun _ => Nat.zero_le _
      rxLen := nofun
      path := trivial }
  · exact { h with
      lenFits := CmdWord.n_lt s.lenW w
      allocFits := CmdWord.n_lt s.lenW w
      cursorLe := Nat.zero_le _
      txLe := nofun
      rxLen := fun _ => rfl
      bufFilled := fun _ hi => absurd hi (Nat.not_lt_zero _)
      path := trivial }
  · rw [hfin]
    exact h.of_frame rfl h.statMasked h.ctlBits trivial
  · exact h.of_frame rfl h.statMasked h.ctlBits trivial

/-- Each dispatch row leads to a state reached with the mode and the status that state's rule names (R226). -/
theorem runRow_pathOk {s t : State} (ht : runRow s = .next t) : t.pathOk := by
  obtain ⟨u, hu, hk⟩ := runRow_cases s
  rw [hu] at ht
  cases ht
  rcases hk with ⟨-, rfl⟩ | ⟨hm, -, rfl⟩ | ⟨-, rfl⟩ | ⟨-, rfl⟩ | ⟨-, rfl⟩ | ⟨hm, -, rfl⟩ | ⟨hm, hq, rfl⟩ | ⟨-, rfl⟩
  case inr.inl =>
    unfold State.bytesRemainOrStop
    split
    next hlt => exact ⟨hm, hlt⟩
    next => trivial
  case inr.inr.inr.inr.inr.inl => exact hm
  case inr.inr.inr.inr.inr.inr.inl => exact ⟨hm, hq⟩
  all_goals trivial

/-- Every dispatch row keeps the invariant. -/
theorem runRow_keeps_inv {s t : State} (h : s.Inv) (ht : runRow s = .next t) : t.Inv := by
  have hp := runRow_pathOk ht
  rw [runRow_frame ht] at hp ⊢
  exact h.of_frame rfl h.statMasked h.ctlBits hp

/-- Loading a data byte below the length keeps the index within it (R230, R24). -/
theorem txdDat_keeps_inv {s : State} (h : s.Inv) (hf : s.fsm = .txdDat) :
    ({ s.regWrite .dat s.txByte with txIdx := s.txIdx + 1#16 }.goto .txdAa).Inv := by
  obtain ⟨hm, hlt⟩ := h.of_txdDat hf
  have hlen := h.lenFits
  have hadd : (s.txIdx + 1#16).toNat = s.txIdx.toNat + 1 := by bv_omega
  exact { h.regWrite_goto (r := .dat) (v := s.txByte) (f := .txdAa) nofun hm with
    txFits := by show (s.txIdx + 1#16).toNat < s.lenW.cells; bv_omega
    txLe := fun _ => by show s.txIdx + 1#16 ≤ s.lenQ; bv_omega }

/-- The receive store keeps the invariant: the cell it fills is the one the cursor passes (R182, R42). -/
theorem store_keeps_inv {s u : State} {b : Byte} (h : s.Inv) (hu : s.store b = .next u) : u.Inv := by
  rcases store_cases hu with ⟨hlt, hcell, rfl⟩ | ⟨-, rfl⟩
  case inr => exact h.of_frame rfl h.statMasked h.ctlBits h.path
  have hadd : (s.cursor + 1#16).toNat = s.cursor.toNat + 1 := by bv_omega
  refine { h with
    cursorLe := by show s.cursor + 1#16 ≤ s.allocLen; bv_omega
    bufWf := Memory.write_wf _ _ h.bufWf
    bufRange := fun c hc => ?_
    bufFilled := fun i hi => ?_ }
  · rcases Memory.mem_write hc with rfl | hc
    · exact hcell
    · exact h.bufRange c hc
  · have hi : i < (s.cursor + 1#16).toNat := hi
    show ((s.rxBuf.write s.cursor.toNat b).read i).isSome = true
    rw [Memory.read_write _ _ _ h.bufWf]
    split
    next => rfl
    next hne => exact h.bufFilled i (by omega)

/-- What the store leaves (R182): it writes the buffer, the cursor, the fault bits and the record only. -/
theorem store_frame {s u : State} {b : Byte} (hu : s.store b = .next u) :
    u = { s with rxBuf := u.rxBuf, cursor := u.cursor, fault := u.fault, trace := u.trace } := by
  rcases store_cases hu with ⟨-, -, rfl⟩ | ⟨-, rfl⟩ <;> rfl

/-- The choice after the store keeps the invariant in a receive (R232). -/
theorem afterStore_keeps_inv {s : State} (h : s.Inv) (hm : s.mode = .receive) : s.afterStore.Inv := by
  have hp : s.afterStore.pathOk := by
    unfold State.afterStore
    split
    · by_cases hlt : s.cursor < s.allocLen
      · rw [if_pos hlt]; exact hm
      · rw [if_neg hlt]; exact hm
    · trivial
  rw [afterStore_eq] at hp ⊢
  exact h.of_frame rfl h.statMasked h.ctlBits hp

/-- The read state keeps the invariant. -/
theorem rxdRead_keeps_inv {s u : State} (h : s.Inv) (hf : s.fsm = .rxdRead)
    (hu : (s.regRead .dat).store (lowByte s.regRdata) = .next u) : u.afterStore.Inv := by
  obtain ⟨hm, -⟩ := h.of_rxdRead hf
  have hread : (s.regRead .dat).Inv := h.of_frame rfl h.statMasked h.ctlBits h.path
  exact afterStore_keeps_inv (store_keeps_inv hread hu) (by rw [store_frame hu]; exact hm)

/-- Every step with the reset input released keeps the invariant. -/
theorem StepCase.keeps_inv {s t : State} (h : s.Inv) (hst : StepCase s t) : t.Inv := by
  cases hst with
  | stutter => exact h
  | accept c q _ _ hrun => exact runCommand_keeps_inv (h.accept c q) hrun
  | dispatch _ hrow => exact runRow_keeps_inv (h.log _) hrow
  | latch _ hne => exact h.of_frame rfl (maskStatus_maskStatus _) h.ctlBits hne
  | poll => exact h.regRead_goto trivial
  | flagLow hf => exact h.regRead_goto (h.of_decSi hf)
  | flagHigh hf => exact h.regRead_goto (h.of_decSi hf)
  | txdDat hf => exact txdDat_keeps_inv h hf
  | rxdRead u hf hu => exact rxdRead_keeps_inv h hf hu
  | addrDat => exact h.regWrite_goto nofun trivial
  | addrAaTx _ hm => exact h.regWrite_goto (fun _ => by decide) hm
  | staClr | siClr | stopSi | ackClr => exact h.regWrite_goto nofun trivial
  | start | addrAaRx | txdAa | ackSet | stopSto => exact h.regWrite_goto (fun _ => by decide) trivial
  | ret => exact h.of_frame rfl h.statMasked h.ctlBits trivial

/-! ## The fault bits -/

/-- The fault bits a step from `s` with the reset input released raises: RX_OVERRUN by a byte with no room (R182),
UNCLASSIFIED by a status without a row (R236), ILLEGAL_CMD by a reserved opcode (R127). -/
def State.raised (s : State) : BitVec 3 :=
  match s.fsm with
  | .rxdRead => if s.cursor < s.allocLen then 0#3 else FaultBit.rxOverrun.mask
  | .dispatch => if s.statQ ∈ rowCodes s.mode then 0#3 else FaultBit.unclassified.mask
  | .idle =>
    match s.cmds with
    | [] => 0#3
    | c :: _ => if 5 ≤ (CmdWord.op c.word).toNat then FaultBit.illegalCmd.mask else 0#3
  | _ => 0#3

/-- The fault bits after a command: ILLEGAL_CMD joins them for a reserved opcode (R127). -/
theorem runCommand_fault {w : BitVec 32} {s t : State} (ht : runCommand w s = .next t) :
    t.fault = s.fault ||| if 5 ≤ (CmdWord.op w).toNat then FaultBit.illegalCmd.mask else 0#3 := by
  obtain ⟨u, hu, hk⟩ := runCommand_cases w s
  rw [hu] at ht
  cases ht
  rcases hk with ⟨ho, rfl⟩ | ⟨ho, rfl⟩ | ⟨ho, rfl⟩ | ⟨ho, hfin⟩ | ⟨ho, rfl⟩
  case inr.inr.inr.inl => rw [if_neg (by omega), hfin]; simp
  case inr.inr.inr.inr => rw [if_pos ho]; rfl
  all_goals rw [if_neg (by omega)]; simp

/-- "Bytes remain or stop" (R153) chooses the response and the next state only. -/
theorem bytesRemainOrStop_eq (s : State) :
    s.bytesRemainOrStop = { s with fsm := s.bytesRemainOrStop.fsm, result := s.bytesRemainOrStop.result } := by
  unfold State.bytesRemainOrStop
  split <;> rfl

/-- The fault bits after a dispatch row: UNCLASSIFIED joins them for a status without a row (R236). -/
theorem runRow_fault {s t : State} (ht : runRow s = .next t) :
    t.fault = s.fault ||| if s.statQ ∈ rowCodes s.mode then 0#3 else FaultBit.unclassified.mask := by
  have row_keeps : s.statQ ∈ rowCodes s.mode → t.fault = s.fault →
      t.fault = s.fault ||| if s.statQ ∈ rowCodes s.mode then 0#3 else FaultBit.unclassified.mask := by
    intro hmem hfault
    rw [if_pos hmem, hfault, BitVec.or_zero]
  obtain ⟨u, hu, hk⟩ := runRow_cases s
  rw [hu] at ht
  cases ht
  rcases hk with ⟨hq, rfl⟩ | ⟨hm, hq, rfl⟩ | ⟨hq, rfl⟩ | ⟨hq, rfl⟩ | ⟨hq, rfl⟩ | ⟨hm, hq, rfl⟩ | ⟨hm, hq, rfl⟩ | ⟨hq, rfl⟩
  · refine row_keeps ?_ rfl
    cases s.mode <;> rcases hq with hq | hq <;> rw [hq] <;> decide
  · refine row_keeps ?_ (by rw [bytesRemainOrStop_eq])
    rcases hq with hq | hq <;> rw [hm, hq] <;> decide
  · refine row_keeps ?_ rfl
    rcases hq with ⟨hm, hq | hq⟩ | ⟨hm, hq⟩ <;> rw [hm, hq] <;> decide
  · refine row_keeps ?_ rfl
    cases s.mode <;> rw [hq] <;> decide
  · refine row_keeps ?_ rfl
    cases s.mode <;> rw [hq] <;> decide
  · refine row_keeps ?_ rfl
    rw [hm, hq]
    decide
  · refine row_keeps ?_ rfl
    rcases hq with hq | hq <;> rw [hm, hq] <;> decide
  · rw [if_neg (not_mem_rowCodes_of_default hq)]
    rfl

/-- The fault bits after the store: RX_OVERRUN joins them where the buffer has no room (R182). -/
theorem store_fault {s u : State} {b : Byte} (hu : s.store b = .next u) :
    u.fault = s.fault ||| if s.cursor < s.allocLen then 0#3 else FaultBit.rxOverrun.mask := by
  rcases store_cases hu with ⟨hlt, -, rfl⟩ | ⟨hge, rfl⟩
  · rw [if_pos hlt, BitVec.or_zero]
  · rw [if_neg hge]; rfl

/-- A step clears no fault bit and raises those of `State.raised` (R29). -/
theorem StepCase.fault_eq {s t : State} (hst : StepCase s t) : t.fault = s.fault ||| s.raised := by
  cases hst with
  | stutter hf hc => simp [State.raised, hf, hc]
  | accept c q hf hc hrun => simpa [State.raised, hf, hc] using runCommand_fault hrun
  | dispatch hf hrow =>
    have hfault := runRow_fault hrow
    simp only [State.raised, hf]
    exact hfault
  | rxdRead u hf hu =>
    have hfault := store_fault hu
    rw [afterStore_eq]
    simp only [State.raised, hf]
    exact hfault
  | _ => simp [State.raised, *]

/-- RX_OVERRUN is raised in the read state with the cursor not below the allocated length (R182). -/
theorem raised_rxOverrun (s : State) :
    s.raised.getLsbD 0 = true ↔ s.fsm = .rxdRead ∧ s.allocLen ≤ s.cursor := by
  rw [← BitVec.not_lt]
  unfold State.raised
  repeat' split
  all_goals simp_all [FaultBit.mask]

/-- UNCLASSIFIED is raised in the dispatch state on a status without a row (R236). -/
theorem raised_unclassified (s : State) :
    s.raised.getLsbD 1 = true ↔ s.fsm = .dispatch ∧ s.statQ ∉ rowCodes s.mode := by
  unfold State.raised
  repeat' split
  all_goals simp_all [FaultBit.mask]

/-- ILLEGAL_CMD is raised at the acceptance of a reserved opcode (R127). -/
theorem raised_illegalCmd (s : State) :
    s.raised.getLsbD 2 = true ↔
      s.fsm = .idle ∧ ∃ c q, s.cmds = c :: q ∧ 5 ≤ (CmdWord.op c.word).toNat := by
  unfold State.raised
  repeat' split
  all_goals simp_all [FaultBit.mask]

/-! ## What only an acceptance writes -/

/-- A step that accepts no command leaves `init_done` and the transaction registers (R21, R22, R23, R30). -/
theorem StepCase.accept_or_keeps {s t : State} (hst : StepCase s t) :
    (∃ c q, s.fsm = .idle ∧ s.cmds = c :: q ∧ runCommand c.word (s.accept c q) = .next t) ∨
    ((s.fsm = .idle → s.cmds = []) ∧
      t.initDone = s.initDone ∧ t.mode = s.mode ∧ t.addrQ = s.addrQ ∧ t.lenQ = s.lenQ) := by
  cases hst with
  | accept c q hf hc hrun => exact .inl ⟨c, q, hf, hc, hrun⟩
  | stutter _ hc => exact .inr ⟨fun _ => hc, rfl, rfl, rfl, rfl⟩
  | dispatch hf hrow =>
    rw [runRow_frame hrow]
    exact .inr ⟨fun hi => by simp [hf] at hi, rfl, rfl, rfl, rfl⟩
  | rxdRead u hf hu =>
    rw [afterStore_eq, store_frame hu]
    exact .inr ⟨fun hi => by simp [hf] at hi, rfl, rfl, rfl, rfl⟩
  | _ => exact .inr ⟨fun hi => by simp_all, rfl, rfl, rfl, rfl⟩

/-- A command sets `init_done` where it is `INIT` (R124) and leaves it otherwise. -/
theorem runCommand_initDone {w : BitVec 32} {s t : State} (ht : runCommand w s = .next t) :
    t.initDone = true ↔ s.initDone = true ∨ (CmdWord.op w).toNat = 0 := by
  obtain ⟨u, hu, hk⟩ := runCommand_cases w s
  rw [hu] at ht
  cases ht
  rcases hk with ⟨ho, rfl⟩ | ⟨ho, rfl⟩ | ⟨ho, rfl⟩ | ⟨ho, hfin⟩ | ⟨ho, rfl⟩
  case inl => simp [ho]
  case inr.inr.inr.inl =>
    have hne : (CmdWord.op w).toNat ≠ 0 := by omega
    rw [hfin]
    simp [hne]
  case inr.inr.inr.inr =>
    have hne : (CmdWord.op w).toNat ≠ 0 := by omega
    simp [hne]
  all_goals simp [ho]

/-- A command leaves the transaction registers unless it is `TRANSMIT` or `REQUEST`, which set their mode (R150, R170). -/
theorem runCommand_transaction {w : BitVec 32} {s t : State} (ht : runCommand w s = .next t) :
    (t.mode = s.mode ∧ t.addrQ = s.addrQ ∧ t.lenQ = s.lenQ) ∨
    ((CmdWord.op w).toNat = 1 ∧ t.mode = .transmit) ∨ ((CmdWord.op w).toNat = 2 ∧ t.mode = .receive) := by
  obtain ⟨u, hu, hk⟩ := runCommand_cases w s
  rw [hu] at ht
  cases ht
  rcases hk with ⟨-, rfl⟩ | ⟨ho, rfl⟩ | ⟨ho, rfl⟩ | ⟨-, hfin⟩ | ⟨-, rfl⟩
  case inr.inl => exact .inr (.inl ⟨ho, rfl⟩)
  case inr.inr.inl => exact .inr (.inr ⟨ho, rfl⟩)
  case inr.inr.inr.inl =>
    rw [hfin]
    exact .inl ⟨rfl, rfl, rfl⟩
  all_goals exact .inl ⟨rfl, rfl, rfl⟩

/-! ## The obligations -/

/-- Settles O1: each is the value the model's reset state shows. -/
theorem resetShowsTheTablesValues : Obligations.ResetShowsTheTablesValues := by
  unfold Obligations.ResetShowsTheTablesValues
  decide

/-- Settles O3: `State.reset` is its own reset, so both invariants are those of a reset. -/
theorem resetMeetsTheInvariants : Obligations.ResetMeetsTheInvariants :=
  ⟨applyReset_inv (s := State.reset) rfl rfl, reset_bufferInv⟩

/-- Settles O4, by the reset's lemma with the reset input asserted and by the cases of a step with it released. -/
theorem stepKeepsTheInvariant : Obligations.StepKeepsTheInvariant := by
  intro s t h ht
  cases hr : s.rst with
  | true =>
    rw [step_of_reset hr] at ht
    cases ht
    exact applyReset_inv h.txMemWf h.ctlBits
  | false => exact (step_cases hr ht).keeps_inv h

/-- Settles O8: the state code decodes to the state's own row. -/
theorem stepRunsTheDecodedStateRow : Obligations.StepRunsTheDecodedStateRow := by
  intro s i hr hi
  have hrow : s.fsm.row = i := by simpa [decode, Except.map] using hi
  rw [step_of_rst hr, hrow]

/-- Settles O15: the fault bits after a step are the old ones joined with those `State.raised` names. -/
theorem faultBitsAreStickyAndSetByTheirRules : Obligations.FaultBitsAreStickyAndSetByTheirRules := by
  intro s t hr ht
  rw [(step_cases hr ht).fault_eq]
  simp only [BitVec.getLsbD_or, Bool.or_eq_true, raised_rxOverrun, raised_unclassified, raised_illegalCmd, and_true]
  ext i hi
  simpa using .inl

/-- Settles O16: only an acceptance writes `init_done`, and only `INIT`'s sets it. -/
theorem initDoneIsSetByInitAlone : Obligations.InitDoneIsSetByInitAlone := by
  intro s t hr ht
  rcases (step_cases hr ht).accept_or_keeps with ⟨c, q, hf, hc, hrun⟩ | ⟨hno, hinit, -⟩
  · simpa [hf, hc] using runCommand_initDone hrun
  · rw [hinit]
    refine ⟨.inl, ?_⟩
    rintro (hs | ⟨hf, c, q, hc, -⟩)
    · exact hs
    · simp [hno hf] at hc

/-- Settles O17: only an acceptance writes the transaction registers, and only `TRANSMIT`'s and `REQUEST`'s do. -/
theorem modeAddressLengthWrittenAtAcceptanceOnly : Obligations.ModeAddressLengthWrittenAtAcceptanceOnly := by
  intro s t hr ht
  rcases (step_cases hr ht).accept_or_keeps with ⟨c, q, hf, hc, hrun⟩ | ⟨-, -, hkeep⟩
  · rcases runCommand_transaction hrun with hkeep | hset
    · exact .inl hkeep
    · exact .inr ⟨hf, c, q, hc, hset⟩
  · exact .inl hkeep

end Sys2Proof.Machine
end

section
/-! SUPPORT. The proofs of the statements on the memories (20_memory.md): no step from a state of the invariant leaves
RXBUF, an access that does leaves the machine stopped, and a register read completes whatever the environment answers. -/

namespace Sys2Proof.Machine

/-! ## Accesses to RXBUF -/

/-- `READ` below the cursor stops where the cell does not exist. -/
theorem execRead_missing_cell {s : State} {n : Len} (hlt : n < s.cursor) (hcell : s.lenW.cells ≤ n.toNat) :
    execRead n s = .fault .rxBufOutOfRange := by
  rw [execRead, if_pos hlt, if_neg (Nat.not_lt.mpr hcell)]

/-- The store below the allocated length stops where the cell does not exist. -/
theorem store_missing_cell {s : State} (b : Byte) (hlt : s.cursor < s.allocLen) (hcell : s.lenW.cells ≤ s.cursor.toNat) :
    s.store b = .fault .rxBufOutOfRange := by
  rw [State.store, if_pos hlt, if_neg (Nat.not_lt.mpr hcell)]

/-- The read state stops where its store does. -/
theorem execSRxdRead_of_store_fault {s : State} {f : Fault}
    (h : (s.regRead .dat).store (lowByte s.regRdata) = .fault f) : execSRxdRead s = .fault f := by
  rw [execSRxdRead, selected_rxdRead, h]

/-- The read state completes where its store does. -/
theorem execSRxdRead_of_store_next {s u : State}
    (h : (s.regRead .dat).store (lowByte s.regRdata) = .next u) : execSRxdRead s = .next u.afterStore := by
  rw [execSRxdRead, selected_rxdRead, h]

/-- The cell the next byte goes to exists: the cursor stays below the allocated length, a `LEN_W`-bit value (R62). -/
theorem State.Inv.cursor_cell {s : State} (h : s.Inv) : s.cursor.toNat < s.lenW.cells :=
  Nat.lt_of_le_of_lt h.cursorLe h.allocFits

/-! ## Progress -/

/-- The idle step completes: the decoded index of a `READ` is a `LEN_W`-bit value, so every command does. -/
theorem execSIdle_next (s : State) : ∃ t, execSIdle s = .next t := by
  unfold execSIdle
  split
  next => exact ⟨s, rfl⟩
  next c q _ =>
    obtain ⟨t, ht, -⟩ := runCommand_cases c.word (s.accept c q)
    exact ⟨t, ht⟩

/-- The dispatch step completes: every status has a row or takes the default arm. -/
theorem execSDispatch_next (s : State) : ∃ t, execSDispatch s = .next t := by
  obtain ⟨t, ht, -⟩ := runRow_cases (s.log (.dispatch (classOf s.statQ)))
  exact ⟨t, ht⟩

/-- The read state completes where the cell at the cursor exists. -/
theorem execSRxdRead_next {s : State} (h : s.cursor.toNat < s.lenW.cells) : ∃ t, execSRxdRead s = .next t := by
  obtain ⟨u, hu⟩ := store_next (s.regRead .dat) (lowByte s.regRdata) fun _ => h
  exact ⟨u.afterStore, execSRxdRead_of_store_next hu⟩

/-- The decoder's first phase completes: it polls again or latches. -/
theorem execSDecStat_next (s : State) : ∃ t, execSDecStat s = .next t := by
  rw [execSDecStat_eq]
  split
  next => exact ⟨_, rfl⟩
  next => exact ⟨_, rfl⟩

/-- The row of every sequencer state completes where the cell at the cursor exists; the read state alone needs it. -/
theorem exec_row_next {s : State} (h : s.cursor.toNat < s.lenW.cells) (f : SeqState) : ∃ t, exec f.row s = .next t := by
  cases f with
  | idle => exact execSIdle_next s
  | dispatch => exact execSDispatch_next s
  | rxdRead => exact execSRxdRead_next h
  | decStat => exact execSDecStat_next s
  | _ => exact ⟨_, rfl⟩

/-! ## Register reads -/

/-- Each read primitive is one read of its register (R209, R211, R213). -/
theorem exec_read_primitive (s : State) {i : Instr} {r : RegName}
    (h : (i, r) ∈ [(Instr.pDataRead, RegName.dat), (.pSiWait, .conset), (.pStatRead, .stat)]) :
    exec i s = .next (s.regRead r) := by
  simp only [List.mem_cons, Prod.mk.injEq, List.not_mem_nil, or_false] at h
  rcases h with ⟨rfl, rfl⟩ | ⟨rfl, rfl⟩ | ⟨rfl, rfl⟩ <;> rfl

/-- A read with no answer queued leaves the queue empty; it only counts the operation and records the value. -/
theorem regRead_of_no_answer {s : State} (h : s.reads = []) (r : RegName) :
    s.regRead r = { s with tick := s.tick + 1, trace := s.trace ++ [.regRead r s.regRdata] } := by
  simp only [State.regRead, h, List.tail_nil]

/-! ## The obligations -/

/-- Settles O6: the reset completes from every state, and the invariant gives the read state its cell. -/
theorem invariantStepNeverStops : Obligations.InvariantStepNeverStops := by
  intro s h
  cases hr : s.rst with
  | true => exact ⟨s.applyReset, step_of_reset hr⟩
  | false =>
    rw [step_of_rst hr]
    exact exec_row_next h.cursor_cell s.fsm

/-- Settles O7: `READ` and the receive store check the cell they access. -/
theorem nonexistentCellStops : Obligations.NonexistentCellStops :=
  ⟨fun _ _ hlt hcell => execRead_missing_cell hlt hcell,
    fun s hlt hcell => execSRxdRead_of_store_fault (store_missing_cell (s := s.regRead .dat) _ hlt hcell)⟩

/-- Settles O30: the value read is the free answer of the environment. -/
theorem readPrimitivesCompleteOnAFreeAnswer : Obligations.ReadPrimitivesCompleteOnAFreeAnswer := by
  intro s hs i r hir
  exact ⟨s.regRdata, by rw [exec_read_primitive s hir, regRead_of_no_answer hs]⟩

end Sys2Proof.Machine
end

section
/-! SUPPORT. The proofs of the statements on the encodings (30_encoding.md): what the decoder reads of a word, that it
undoes the encoder and what it rejects, that a placed word is run, and which register operations a step can record. -/

namespace Sys2Proof

/-! ## The command word: the bits that have no influence -/

namespace CmdWord

/-- Flipping bits outside `[2:0]` leaves the opcode. -/
theorem op_flip (w x : BitVec 32) {m : BitVec 32} (hm : op m = 0#3) : op (w ^^^ (x &&& m)) = op w := by
  unfold op at hm ⊢
  rw [BitVec.extractLsb'_xor, BitVec.extractLsb'_and, hm, BitVec.and_zero, BitVec.xor_zero]

/-- Flipping bits outside `[14:8]` leaves the address. -/
theorem addr_flip (w x : BitVec 32) {m : BitVec 32} (hm : addr m = 0#7) : addr (w ^^^ (x &&& m)) = addr w := by
  unfold addr at hm ⊢
  rw [BitVec.extractLsb'_xor, BitVec.extractLsb'_and, hm, BitVec.and_zero, BitVec.xor_zero]

/-- Flipping bits below bit 16 leaves the length, at every width. -/
theorem n_flip (L : LenW) (w x : BitVec 32) {m : BitVec 32} (hm : m.toNat >>> 16 = 0) :
    n L (w ^^^ (x &&& m)) = n L w := by
  have hfield : m.extractLsb' 16 L.val = 0#L.val := by rw [BitVec.extractLsb', hm]
  unfold n
  rw [BitVec.extractLsb'_xor, BitVec.extractLsb'_and, hfield, BitVec.and_zero, BitVec.xor_zero]

/-- The port has the address. -/
@[simp] theorem addr_onPort (L : LenW) (w : BitVec 32) : addr (onPort L w) = addr w := by
  apply BitVec.eq_of_getLsbD_eq
  intro i hi
  simp [addr, onPort, hi, show 8 + i < 32 by omega, show 8 + i < 16 + L.val by omega]

/-- The port has the length. -/
@[simp] theorem n_onPort (L : LenW) (w : BitVec 32) : n L (onPort L w) = n L w := by
  apply BitVec.eq_of_getLsbD_eq
  intro i hi
  by_cases hl : i < L.val
  · simp [n, onPort, hl, show 16 + i < 32 by omega]
  · simp [n, hl]

end CmdWord

/-- The decoder reads the opcode and, of the operand fields, those the opcode uses (R91, R93). -/
theorem decodeCmd_congr (L : LenW) {v w : BitVec 32} (hop : CmdWord.op v = CmdWord.op w)
    (haddr : (CmdWord.op w).toNat ∈ [1, 2] → CmdWord.addr v = CmdWord.addr w)
    (hn : (CmdWord.op w).toNat ∈ [1, 2, 4] → CmdWord.n L v = CmdWord.n L w) : decodeCmd L v = decodeCmd L w := by
  unfold decodeCmd
  rw [hop]
  split
  next => rfl
  next ho => rw [haddr (by simp [ho]), hn (by simp [ho])]
  next ho => rw [haddr (by simp [ho]), hn (by simp [ho])]
  next => rfl
  next ho => rw [hn (by simp [ho])]
  all_goals rfl

/-! ## The decoder undoes the encoder -/

/-- Decoding the encoding of a well-formed instruction gives it back, operand by operand (R90, R95, R99, R102). -/
theorem decode_encode {L : LenW} {i : Instr} (h : i.wellFormed L = true) : decode L (encode i) = .ok i := by
  cases i with
  | transmit a k => simp [decode, encode, decodeCmd, CmdWord.n_mk L _ a k ((L.fits_iff k).mp h)]
  | request a k => simp [decode, encode, decodeCmd, CmdWord.n_mk L _ a k ((L.fits_iff k).mp h)]
  | read k => simp [decode, encode, decodeCmd, CmdWord.n_mk L _ _ k ((L.fits_iff k).mp h)]
  | init | available | reserved5 | reserved6 | reserved7 => simp [decode, encode, decodeCmd]
  | _ => rfl

/-- Above `0x58` the two tables agree: no code has a row of one mode (R99). -/
theorem classOf_of_ge : ∀ b : Byte, 0x60#8 ≤ b →
    classOf (maskStatus b) = .noInfo ∨ classOf (maskStatus b) = .unclassified := by decide

/-- A status of either mode has one row in both tables (R98, R99). -/
theorem decode_stat_of_ge (L : LenW) {b : Byte} (h : 0x60#8 ≤ b) (m m' : Mode) :
    decode L (.stat m b) = decode L (.stat m' b) := by
  cases m <;> cases m' <;> rcases classOf_of_ge b h with hk | hk <;> simp only [decode, statusRow, hk]

/-! ## What is decoded is well-formed -/

/-- The command's length operand is the field of the port, which fits (R92). -/
theorem decodeCmd_wellFormed (L : LenW) (w : BitVec 32) : (decodeCmd L w).wellFormed L = true := by
  have hfits : L.fits (CmdWord.n L w) = true := (L.fits_iff _).mpr (CmdWord.n_lt L w)
  unfold decodeCmd
  split
  case h_2 | h_3 | h_5 => exact hfits
  all_goals rfl

theorem unclassifiedRow_wellFormed (L : LenW) (s : Byte) : (unclassifiedRow s).wellFormed L = true := by
  unfold unclassifiedRow
  split <;> rfl

theorem statusRow_wellFormed (L : LenW) (m : Mode) (s : Byte) : (statusRow m s).wellFormed L = true := by
  unfold statusRow
  split
  case h_27 | h_28 => exact unclassifiedRow_wellFormed L s
  all_goals rfl

theorem row_wellFormed (L : LenW) (f : SeqState) : f.row.wellFormed L = true := by cases f <;> rfl

theorem simplePrim_wellFormed {L : LenW} {ph : Phase} {i j : Instr} (hi : i.wellFormed L = true)
    (h : simplePrim ph i = .ok j) : j.wellFormed L = true := by
  cases ph <;> cases h
  exact hi

theorem decodePrim_wellFormed {L : LenW} {sel : BitVec 4} {ph : Phase} {i : Instr} (h : decodePrim sel ph = .ok i) :
    i.wellFormed L = true := by
  unfold decodePrim at h
  split at h
  case h_1 | h_4 | h_8 | h_9 | h_14 | h_15 | h_16 => cases h; rfl
  all_goals exact simplePrim_wellFormed rfl h

/-- Whatever the word, the decoder answers a well-formed instruction or none. -/
theorem decode_wellFormed {L : LenW} {r : RawWord} {i : Instr} (h : decode L r = .ok i) : i.wellFormed L = true := by
  cases r with
  | cmd w => cases h; exact decodeCmd_wellFormed L w
  | prim sel ph => exact decodePrim_wellFormed h
  | stat m b => cases h; exact statusRow_wellFormed L m _
  | fsm code =>
    cases hc : decodeState code with
    | ok f =>
      simp only [decode, hc] at h
      cases h
      exact row_wellFormed L f
    | error e =>
      simp only [decode, hc] at h
      cases h

/-! ## What is rejected -/

/-- The state codes above 16 are unused (R102). -/
theorem decodeState_error_iff (code : BitVec 5) : decodeState code = .error .unusedStateCode ↔ 17 ≤ code.toNat := by
  revert code
  decide

/-- A simple primitive has no second phase; a compound one, `P_NONE` and the reserved selects take either (R215). -/
theorem decodePrim_error_iff (sel : BitVec 4) (ph : Phase) : decodePrim sel ph = .error .phaseOfSimplePrimitive ↔
    ph = .second ∧ sel.toNat ∈ [1, 2, 4, 5, 6, 9, 10, 11, 12] := by
  cases ph <;> revert sel <;> decide

/-! ## The classification -/

/-- The thirteen codes are the classified ones (R100). -/
theorem classOf_ne_unclassified_iff : ∀ b : Byte, classOf b ≠ .unclassified ↔
    b ∈ [0x00#8, 0x08#8, 0x10#8, 0x18#8, 0x20#8, 0x28#8, 0x30#8, 0x38#8, 0x40#8, 0x48#8, 0x50#8, 0x58#8, 0xF8#8] := by
  decide

end Sys2Proof

namespace Sys2Proof.Machine

/-! ## A placed word is run -/

/-- The codes 0 to 16 are those of sequencer states (R102). -/
theorem decodeState_of_le {code : BitVec 5} (h : code.toNat ≤ 16) : ∃ f, decodeState code = .ok f := by
  unfold decodeState
  generalize code.toNat = k at h
  interval_cases k <;> exact ⟨_, rfl⟩

/-- The words of the opcode table are commands, statuses and codes of sequencer states (log 6). -/
theorem tableRawWord_cases {nbits w : Nat} {r : RawWord} (h : tableRawWord nbits w = some r) :
    (∃ x, r = .cmd x) ∨ (∃ m b, r = .stat m b) ∨ ∃ code f, r = .fsm code ∧ decodeState code = .ok f := by
  unfold tableRawWord at h
  split_ifs at h with hbits hbig hcmd hfsm hrx <;> cases h
  · exact .inl ⟨_, rfl⟩
  · obtain ⟨f, hf⟩ := decodeState_of_le (code := BitVec.ofNat 5 w) (by rw [BitVec.toNat_ofNat]; omega)
    exact .inr (.inr ⟨_, f, rfl, hf⟩)
  · exact .inr (.inl ⟨_, _, rfl⟩)
  · exact .inr (.inl ⟨_, _, rfl⟩)
  · exact .inl ⟨_, rfl⟩

/-- Placing a table word is placing the raw word it stands for. -/
theorem withFetchWord_of_raw {nbits w : Nat} {r : RawWord} (s : State) (h : tableRawWord nbits w = some r) :
    s.withFetchWord nbits w = s.placeWord r := by
  simp only [State.withFetchWord, h]

theorem decodeTableWord_of_raw {nbits w : Nat} {r : RawWord} {i : Instr} (h : tableRawWord nbits w = some r)
    (hi : decode .default8 r = .ok i) : decodeTableWord nbits w = some i := by
  simp only [decodeTableWord, h, hi, Except.toOption]

/-- A command on the idle port is accepted and run (R222). -/
theorem step_presentWord (s : State) (x : BitVec 32) :
    step (s.presentWord x) = exec (decodeCmd s.lenW x) ((s.presentWord x).accept ⟨x, []⟩ s.cmds) := by
  rw [step_of_rst (s := s.presentWord x) rfl]
  exact exec_sIdle_cons (s := s.presentWord x) rfl

/-- A latched status is recorded and its row run (R226). -/
theorem step_presentStatus (s : State) (m : Mode) {q : Byte} (hq : maskStatus q = q) (hn : q ≠ 0xF8#8) :
    step (s.presentStatus m q) =
      exec (statusRow m q) ((s.presentStatus m q).log (.dispatch (classOf q))) := by
  rw [step_of_rst (s := s.presentStatus m q) rfl]
  exact runRow_eq_exec ((s.presentStatus m q).log (.dispatch (classOf q))) hq hn

/-- A no-new-state answer is read and the decoder polls again (R141). -/
theorem step_presentStatRead (s : State) {b : Byte} (hb : maskStatus b = Config.stNoInfo) :
    step (s.presentStatRead b) = exec .noInfo ((s.presentStatRead b).regRead .stat) := by
  have hlow : lowByte (s.presentStatRead b).regRdata = b := BitVec.setWidth_setWidth_of_le b (by decide)
  rw [step_of_rst (s := s.presentStatRead b) rfl]
  change execSDecStat _ = _
  rw [execSDecStat_eq, hlow, if_pos hb]
  rfl

/-- Only no-new-state decodes to `NO_INFO`. -/
theorem statusRow_noInfo_iff (m : Mode) (q : Byte) : statusRow m q = .noInfo ↔ q = Config.stNoInfo := by
  revert q
  cases m <;> decide

/-! ## The register operations a step records -/

/-- A register write the spec lists, a read of a readable register, or no register operation (R97, R61). -/
def Event.listed : Event → Prop
  | .regWrite r v => r = .dat ∨
      (r, v) ∈ [(RegName.conset, 0x20#8), (.conset, 0x10#8), (.conset, 0x04#8),
        (.conclr, 0x20#8), (.conclr, 0x08#8), (.conclr, 0x04#8)]
  | .regRead r _ => r = .conset ∨ r = .stat ∨ r = .dat
  | .cmd _ | .dispatch _ | .faultSet _ | .initSeq | .rsp _ => True

/-- From `s` to `t` the record grows by listed events. -/
def RecordsListed (s t : State) : Prop := ∃ evs, t.trace = s.trace ++ evs ∧ ∀ e ∈ evs, e.listed

theorem RecordsListed.of_eq {s t : State} (h : t.trace = s.trace) : RecordsListed s t :=
  ⟨[], by rw [h, List.append_nil], nofun⟩

theorem RecordsListed.of_event {s t : State} {e : Event} (h : t.trace = s.trace ++ [e]) (he : e.listed) :
    RecordsListed s t :=
  ⟨[e], h, by simpa using he⟩

theorem RecordsListed.trans {s t u : State} (hst : RecordsListed s t) (htu : RecordsListed t u) : RecordsListed s u := by
  obtain ⟨evs, ht, hevs⟩ := hst
  obtain ⟨evs', hu, hevs'⟩ := htu
  exact ⟨evs ++ evs', by rw [hu, ht, List.append_assoc],
    fun e he => (List.mem_append.mp he).elim (hevs e) (hevs' e)⟩

/-- A command records the platform sequence or nothing (R124). -/
theorem runCommand_records {w : BitVec 32} {s t : State} (ht : runCommand w s = .next t) : RecordsListed s t := by
  obtain ⟨u, hu, hk⟩ := runCommand_cases w s
  rw [hu] at ht
  cases ht
  rcases hk with ⟨-, rfl⟩ | ⟨-, rfl⟩ | ⟨-, rfl⟩ | ⟨-, hfin⟩ | ⟨-, rfl⟩
  case inl => exact .of_event (e := .initSeq) rfl trivial
  case inr.inr.inr.inl => exact .of_eq (by rw [hfin]; rfl)
  all_goals exact .of_eq rfl

/-- The receive store records a dropped byte or nothing (R182). -/
theorem store_records {s u : State} {b : Byte} (hu : s.store b = .next u) : RecordsListed s u := by
  rcases store_cases hu with ⟨-, -, rfl⟩ | ⟨-, rfl⟩
  · exact .of_eq rfl
  · exact .of_event (e := .faultSet .rxOverrun) rfl trivial

/-- Every step with the reset input released records listed events only. -/
theorem StepCase.records {s t : State} (hst : StepCase s t) : RecordsListed s t := by
  cases hst with
  | stutter => exact .of_eq rfl
  | accept c q _ _ hrun => exact .trans (.of_event (accept_trace s c q) trivial) (runCommand_records hrun)
  | dispatch _ hrow =>
    exact .of_event (e := .dispatch (classOf s.statQ)) (by rw [runRow_frame hrow]; rfl) trivial
  | rxdRead u _ hu =>
    have hread : RecordsListed s (s.regRead .dat) := .of_event (regRead_trace s .dat) (.inr (.inr rfl))
    have hafter : RecordsListed u u.afterStore := .of_eq (by rw [afterStore_eq])
    exact (hread.trans (store_records hu)).trans hafter
  | poll | latch => exact .of_event (regRead_trace s .stat) (.inr (.inl rfl))
  | flagLow | flagHigh => exact .of_event (regRead_trace s .conset) (.inl rfl)
  | addrDat | txdDat => exact .of_event (regWrite_trace s .dat _) (.inl rfl)
  | ret => exact .of_event (respond_trace s) trivial
  | start | addrAaTx | addrAaRx | txdAa | ackSet | stopSto =>
    exact .of_event (regWrite_trace s .conset _) (.inr (by decide))
  | staClr | ackClr | siClr | stopSi => exact .of_event (regWrite_trace s .conclr _) (.inr (by decide))

/-! ## The obligations -/

/-- Settles O48: the encoder's word decodes to its instruction, and from `0x60` on in either table. -/
theorem decodeOfEncodeIsTheInstruction : Obligations.DecodeOfEncodeIsTheInstruction := by
  intro L i hwf
  refine ⟨decode_encode hwf, fun b hb hge => ?_⟩
  rw [decode_stat_of_ge L hge .receive .transmit, ← hb]
  exact decode_encode hwf

/-- Settles O14: the reset records nothing, and every other step records listed events only. -/
theorem controlWritesAreTheListedSix : Obligations.ControlWritesAreTheListedSix := by
  intro s t ht
  have hrec : RecordsListed s t := by
    cases hr : s.rst with
    | true =>
      rw [step_of_reset hr] at ht
      cases ht
      exact .of_eq rfl
    | false => exact (step_cases hr ht).records
  obtain ⟨evs, htr, hevs⟩ := hrec
  exact ⟨evs, htr, fun r v he => hevs _ he, fun r v he => hevs _ he⟩

/-- Settles O49, by the formats: commands and statuses always decode, state codes and selects where their lemmas say. -/
theorem decodeGivesWellFormedOrRejects : Obligations.DecodeGivesWellFormedOrRejects := by
  refine ⟨fun L r i h => decode_wellFormed h, fun L w => ⟨_, rfl⟩, fun L m b => ⟨_, rfl⟩, fun L c => ?_,
    fun L p ph => decodePrim_error_iff p ph⟩
  rw [← decodeState_error_iff]
  cases hc : decodeState c with
  | ok f => simp [decode, hc, Except.map]
  | error e => simp [decode, hc, Except.map]

/-- Settles O50: the flipped bits lie outside the fields that the opcode uses. -/
theorem unusedCommandBitsAreIgnored : Obligations.UnusedCommandBitsAreIgnored := by
  intro L w x
  refine ⟨?reserved, ?port, fun ho => ?address, fun ho => ?length⟩
  case reserved =>
    exact decodeCmd_congr L (CmdWord.op_flip w x (by decide)) (fun _ => CmdWord.addr_flip w x (by decide))
      (fun _ => CmdWord.n_flip L w x (by decide))
  case port =>
    exact decodeCmd_congr L (CmdWord.op_onPort L w) (fun _ => CmdWord.addr_onPort L w) (fun _ => CmdWord.n_onPort L w)
  case address =>
    exact decodeCmd_congr L (CmdWord.op_flip w x (by decide)) (fun hu => absurd hu ho)
      (fun _ => CmdWord.n_flip L w x (by decide))
  case length =>
    exact decodeCmd_congr L (CmdWord.op_flip w x (by decide)) (fun _ => CmdWord.addr_flip w x (by decide))
      (fun hu => absurd hu ho)

/-- Settles O11, by the three formats that are placed; a status is read where it is no-new-state and else dispatched. -/
theorem placedTableWordIsRun : Obligations.PlacedTableWordIsRun := by
  intro s nbits w r hL hr
  rw [withFetchWord_of_raw s hr]
  rcases tableRawWord_cases hr with ⟨x, rfl⟩ | ⟨m, b, rfl⟩ | ⟨code, f, rfl, hf⟩
  · refine ⟨_, decodeTableWord_of_raw hr rfl, ?_⟩
    rw [← hL]
    exact step_presentWord s x
  · refine ⟨_, decodeTableWord_of_raw hr rfl, ?_⟩
    simp only [statusRow_noInfo_iff, State.placeWord]
    split
    next hb => rw [(statusRow_noInfo_iff m _).mpr hb]; exact step_presentStatRead s hb
    next hb => exact step_presentStatus s m (maskStatus_maskStatus b) hb
  · refine ⟨f.row, decodeTableWord_of_raw hr (by simp only [decode, hf]; rfl), ?_⟩
    simp only [State.placeWord, hf]
    exact step_of_rst rfl

/-- Settles O51: each word is evaluated. -/
theorem writtenOutWordsDecode : Obligations.WrittenOutWordsDecode := by
  unfold Obligations.WrittenOutWordsDecode
  decide

/-- Settles O52: a classified byte is one of the thirteen codes, whose reserved bits are zero. -/
theorem classificationIsTheTable : Obligations.ClassificationIsTheTable := by
  have codes_masked : ∀ b ∈ [0x00#8, 0x08#8, 0x10#8, 0x18#8, 0x20#8, 0x28#8, 0x30#8, 0x38#8, 0x40#8, 0x48#8, 0x50#8, 0x58#8,
      0xF8#8], maskStatus b = b := by decide
  exact ⟨classOf_ne_unclassified_iff, by decide, fun b hb => codes_masked b ((classOf_ne_unclassified_iff b).mp hb)⟩

end Sys2Proof.Machine
end

section
/-! SUPPORT. The proofs of the statements on the commands (40_commands_and_init.md): what a step in `S_IDLE` runs, and what
`INIT` and the reserved opcodes do. -/

namespace Sys2Proof.Machine

/-! ## The step in S_IDLE -/

theorem step_of_idle {s : State} (hr : s.rst = false) (hf : s.fsm = .idle) : step s = exec .sIdle s := by
  rw [step_of_rst hr, hf]
  rfl

/-- The step accepts the word on the port and runs the command it decodes to (R120, R222). -/
theorem step_of_idle_cons {s : State} {c : HostCmd} {q : List HostCmd} (hr : s.rst = false) (hf : s.fsm = .idle)
    (hc : s.cmds = c :: q) : step s = exec (decodeCmd s.lenW c.word) (s.accept c q) := by
  rw [step_of_idle hr hf, exec_sIdle_cons hc]

/-- With no word on the port the step changes nothing (log 7). -/
theorem step_of_idle_nil {s : State} (hr : s.rst = false) (hf : s.fsm = .idle) (hc : s.cmds = []) :
    step s = .next s := by
  rw [step_of_idle hr hf, exec_sIdle_nil hc]

/-! ## The commands without a transaction -/

/-- `INIT` records the platform sequence, sets `init_done` and responds 0 (R124). -/
theorem exec_init (s : State) :
    exec .init s = .next ({ s.log .initSeq with initDone := true }.finish Config.success .ret) := rfl

/-- The three reserved opcodes have one meaning (R127). -/
theorem exec_reserved (s : State) {i : Instr} (hi : i = .reserved5 ∨ i = .reserved6 ∨ i = .reserved7) :
    exec i s = .next s.illegalCmd := by
  rcases hi with rfl | rfl | rfl
  · rfl
  · rfl
  · rfl

/-- A reserved command writes the fault register, the response and the sequencer state (R127). -/
theorem illegalCmd_eq (s : State) :
    s.illegalCmd = { s with fault := s.fault ||| 0b100#3, result := 0x0000#16, fsm := .ret } := rfl

/-! ## The obligations -/

/-- Settles O9: the accepted word is decoded for the width that the acceptance leaves as it was. -/
theorem idleStepRunsTheDecodedCommand : Obligations.IdleStepRunsTheDecodedCommand := by
  refine ⟨fun s c q i hr hf hc hi => ?word, fun s hr hf hc => step_of_idle_nil hr hf hc⟩
  case word =>
    have hdec : decodeCmd s.lenW c.word = i := Except.ok.inj hi
    rw [step_of_idle_cons hr hf hc, hdec]
    rfl

/-- Settles O21: the state `INIT` leaves is `s` with the four fields written. -/
theorem initRunsThePlatformSequence : Obligations.InitRunsThePlatformSequence := by
  intro s
  rw [exec_init]
  rfl

/-- Settles O26: each reserved opcode is the illegal command. -/
theorem reservedOpcodesSetIllegalCmd : Obligations.ReservedOpcodesSetIllegalCmd := by
  intro s i hi
  rw [exec_reserved s hi, illegalCmd_eq]

end Sys2Proof.Machine
end

section
/-! SUPPORT. The proofs of the statements on the decoder (41_status_decoder.md): which bits of an answer a step uses, and
the two phases of polling over any number of answers. -/

namespace Sys2Proof.Machine

/-! ## The steps that read -/

/-- One read of the status register: poll again, or latch the masked status (R141, R224). -/
theorem step_of_decStat {s : State} (hr : s.rst = false) (hf : s.fsm = .decStat) :
    step s = if maskStatus (lowByte s.regRdata) = Config.stNoInfo then .next ((s.regRead .stat).goto .decStat)
      else .next ({ s.regRead .stat with statQ := maskStatus (lowByte s.regRdata) }.goto .decSi) := by
  rw [step_of_rst hr, hf]
  exact execSDecStat_eq s

/-- One poll of the transfer-complete flag (R142, R225). -/
theorem step_of_decSi {s : State} (hr : s.rst = false) (hf : s.fsm = .decSi) :
    step s = .next ((s.regRead .conset).goto (if siFlag s.regRdata then .dispatch else .decSi)) := by
  rw [step_of_rst hr, hf]
  rfl

theorem step_of_rxdRead {s : State} (hr : s.rst = false) (hf : s.fsm = .rxdRead) : step s = execSRxdRead s := by
  rw [step_of_rst hr, hf]
  rfl

/-! ## The bits of an answer that are used -/

/-- The low byte of an answer is its bits `[7:0]` (R64). -/
theorem lowByte_congr {v w : RegWord} (h : ∀ i < 8, v.getLsbD i = w.getLsbD i) : lowByte v = lowByte w := by
  apply BitVec.eq_of_getLsbD_eq
  intro i hi
  simp [lowByte, hi, h i hi]

/-- The mask clears the bits `[2:0]` of a byte and no other (R98). -/
theorem getLsbD_maskStatus (b : Byte) (i : Nat) : (maskStatus b).getLsbD i = (b.getLsbD i && decide (3 ≤ i)) := by
  by_cases hi : i < 8
  · have mask_bits : ∀ k < 8, Config.statMask.getLsbD k = decide (3 ≤ k) := by decide
    rw [maskStatus, BitVec.getLsbD_and, mask_bits i hi]
  · rw [BitVec.getLsbD_of_ge _ i (by omega), BitVec.getLsbD_of_ge b i (by omega), Bool.false_and]

/-- The status an answer shows is its bits `[7:3]` (R98). -/
theorem maskStatus_lowByte_congr {v w : RegWord} (h : ∀ i, 3 ≤ i → i < 8 → v.getLsbD i = w.getLsbD i) :
    maskStatus (lowByte v) = maskStatus (lowByte w) := by
  apply BitVec.eq_of_getLsbD_eq
  intro i hi
  rw [getLsbD_maskStatus, getLsbD_maskStatus]
  by_cases h3 : 3 ≤ i
  · simp [lowByte, hi, h i h3 hi]
  · simp [h3]

/-! ## The record has no influence on the receive store -/

/-- The store runs alike on any record (R182). -/
theorem store_of_other_trace {s u : State} {b : Byte} (tr : List Event) (hu : s.store b = .next u) :
    ∃ u', { s with trace := tr }.store b = .next u' ∧ u'.sansTrace = u.sansTrace := by
  rcases store_cases hu with ⟨hlt, hcell, rfl⟩ | ⟨hge, rfl⟩
  · exact ⟨_, (if_pos hlt).trans (if_pos hcell), rfl⟩
  · exact ⟨_, if_neg hge, rfl⟩

/-- The choice after the store does not see the record (R232). -/
theorem sansTrace_afterStore (s : State) : s.afterStore.sansTrace = s.sansTrace.afterStore := by
  unfold State.afterStore
  show _ = if s.statQ = Config.stDatrAck then _ else _
  split <;> rfl

/-- The read state uses the low byte of the answer only (R176, R64). -/
theorem execSRxdRead_of_same_lowByte {s t : State} {v w : RegWord} {q : List RegWord} (hvw : lowByte v = lowByte w)
    (ht : execSRxdRead { s with reads := v :: q } = .next t) :
    ∃ u, execSRxdRead { s with reads := w :: q } = .next u ∧ u.sansTrace = t.sansTrace := by
  obtain ⟨x, hx, rfl⟩ := execSRxdRead_cases ht
  obtain ⟨y, hy, hyx⟩ := store_of_other_trace (s.trace ++ [.regRead .dat w]) hx
  rw [regRdata_cons rfl, hvw] at hy
  exact ⟨y.afterStore, execSRxdRead_of_store_next hy, by rw [sansTrace_afterStore, sansTrace_afterStore, hyx]⟩

/-! ## Runs of several steps -/

theorem stepN_one (s : State) : stepN 1 s = step s := by
  unfold stepN
  split
  next h => rw [h]; rfl
  next h => rw [h]
  next h => rw [h]

/-- A run that completes is continued from where it ended. -/
theorem stepN_add {m n : Nat} {s t : State} {o : Result} (hm : stepN m s = .next t) (hn : stepN n t = o) :
    stepN (m + n) s = o := by
  induction m generalizing s with
  | zero =>
    cases hm
    rwa [Nat.zero_add]
  | succ m ih =>
    rw [Nat.add_right_comm]
    unfold stepN at hm ⊢
    split at hm
    next u hu => exact ih hm
    next => cases hm
    next => cases hm

/-! ## Polling over any number of answers -/

/-- The state after the reads of `r` that used up the answers `vs` and left `rest` (R64, R74, R75). -/
def State.afterReads (s : State) (r : RegName) (vs rest : List RegWord) : State :=
  { s with reads := rest, tick := s.tick + vs.length, trace := s.trace ++ vs.map (Event.regRead r) }

/-- The model's read, with its answer queued, is one of them. -/
theorem regRead_of_reads {s : State} {v : RegWord} {q : List RegWord} (h : s.reads = v :: q) (r : RegName) :
    s.regRead r = s.afterReads r [v] q := by
  simp [State.regRead, State.afterReads, regRdata_cons h, h]

theorem afterReads_afterReads (s : State) (r : RegName) (vs ws p rest : List RegWord) :
    (s.afterReads r vs p).afterReads r ws rest = s.afterReads r (vs ++ ws) rest := by
  simp [State.afterReads, Nat.add_assoc]

/-- A state that reads `r` and stays on the answers of `P` stays through any number of them. -/
theorem stepN_of_polls {f : SeqState} {r : RegName} {P : RegWord → Prop}
    (hpoll : ∀ {s : State} {v : RegWord} {q : List RegWord}, s.rst = false → s.fsm = f → s.reads = v :: q → P v →
      step s = .next (s.afterReads r [v] q))
    {s : State} {polls rest : List RegWord} (hr : s.rst = false) (hf : s.fsm = f) (hq : s.reads = polls ++ rest)
    (hP : ∀ p ∈ polls, P p) : stepN polls.length s = .next (s.afterReads r polls rest) := by
  induction polls generalizing s with
  | nil =>
    obtain rfl : s.reads = rest := hq
    simp [stepN, State.afterReads]
  | cons v vs ih =>
    obtain ⟨hv, hvs⟩ := List.forall_mem_cons.mp hP
    have hone : stepN 1 s = .next (s.afterReads r [v] (vs ++ rest)) :=
      (stepN_one s).trans (hpoll hr hf hq hv)
    have hrest := ih (s := s.afterReads r [v] (vs ++ rest)) hr hf rfl hvs
    rw [List.length_cons, Nat.add_comm, stepN_add hone hrest, afterReads_afterReads, List.singleton_append]

/-- No-new-state: the decoder polls again (R141). -/
theorem step_decStat_poll {s : State} {v : RegWord} {q : List RegWord} (hr : s.rst = false) (hf : s.fsm = .decStat)
    (hq : s.reads = v :: q) (hv : maskStatus (lowByte v) = Config.stNoInfo) :
    step s = .next (s.afterReads .stat [v] q) := by
  rw [step_of_decStat hr hf, regRdata_cons hq, if_pos hv, regRead_of_reads hq, ← hf]
  rfl

/-- A status is latched, masked (R141). -/
theorem step_decStat_latch {s : State} {v : RegWord} {q : List RegWord} (hr : s.rst = false) (hf : s.fsm = .decStat)
    (hq : s.reads = v :: q) (hv : maskStatus (lowByte v) ≠ Config.stNoInfo) :
    step s = .next { s.afterReads .stat [v] q with fsm := .decSi, statQ := maskStatus (lowByte v) } := by
  rw [step_of_decStat hr hf, regRdata_cons hq, if_neg hv, regRead_of_reads hq]
  rfl

/-- The flag low: the decoder polls again (R142). -/
theorem step_decSi_poll {s : State} {c : RegWord} {q : List RegWord} (hr : s.rst = false) (hf : s.fsm = .decSi)
    (hq : s.reads = c :: q) (hc : siFlag c = false) : step s = .next (s.afterReads .conset [c] q) := by
  rw [step_of_decSi hr hf, regRdata_cons hq, hc, regRead_of_reads hq, if_neg Bool.false_ne_true, ← hf]
  rfl

/-- The flag high: the latched status is dispatched (R142, R143). -/
theorem step_decSi_flag {s : State} {c : RegWord} {q : List RegWord} (hr : s.rst = false) (hf : s.fsm = .decSi)
    (hq : s.reads = c :: q) (hc : siFlag c = true) :
    step s = .next { s.afterReads .conset [c] q with fsm := .dispatch } := by
  rw [step_of_decSi hr hf, regRdata_cons hq, hc, regRead_of_reads hq]
  rfl

/-- Phase 1 as a whole: polls that show no-new-state, then a status (R141). -/
theorem stepN_until_status {s : State} {polls q : List RegWord} {v : RegWord} (hr : s.rst = false)
    (hf : s.fsm = .decStat) (hpolls : ∀ p ∈ polls, maskStatus (lowByte p) = Config.stNoInfo)
    (hv : maskStatus (lowByte v) ≠ Config.stNoInfo) (hq : s.reads = polls ++ v :: q) :
    stepN (polls.length + 1) s = .next { s.afterReads .stat (polls ++ [v]) q with
      fsm := .decSi, statQ := maskStatus (lowByte v) } := by
  have hlatch := step_decStat_latch (s := s.afterReads .stat polls (v :: q)) hr hf rfl hv
  rw [← stepN_one, afterReads_afterReads] at hlatch
  exact stepN_add (stepN_of_polls step_decStat_poll hr hf hq hpolls) hlatch

/-- Phase 2 as a whole: polls with the flag low, then the flag (R142, R143). -/
theorem stepN_until_flag {s : State} {flags q : List RegWord} {c : RegWord} (hr : s.rst = false)
    (hf : s.fsm = .decSi) (hflags : ∀ f ∈ flags, siFlag f = false) (hc : siFlag c = true)
    (hq : s.reads = flags ++ c :: q) :
    stepN (flags.length + 1) s = .next { s.afterReads .conset (flags ++ [c]) q with fsm := .dispatch } := by
  have hflag := step_decSi_flag (s := s.afterReads .conset flags (c :: q)) hr hf rfl hc
  rw [← stepN_one, afterReads_afterReads] at hflag
  exact stepN_add (stepN_of_polls step_decSi_poll hr hf hq hflags) hflag

/-! ## The obligations -/

/-- Settles O19, by the three states that use an answer: each sees it through the bits its rule names. -/
theorem otherReadBitsHaveNoInfluence : Obligations.OtherReadBitsHaveNoInfluence := by
  intro s v w q t hr hbits ht
  have hread (x : RegWord) : { s with reads := x :: q }.regRdata = x := rfl
  rcases hbits with ⟨hf, hvw⟩ | ⟨hf, hvw⟩ | ⟨hf, hvw⟩
  · have hstep (x : RegWord) := step_of_decStat (s := { s with reads := x :: q }) hr hf
    rw [hstep, hread, maskStatus_lowByte_congr hvw] at ht
    rw [hstep, hread]
    split at ht
    next hm => cases ht; exact ⟨_, if_pos hm, rfl⟩
    next hm => cases ht; exact ⟨_, if_neg hm, rfl⟩
  · have hflag : siFlag v = siFlag w := hvw
    have hstep (x : RegWord) := step_of_decSi (s := { s with reads := x :: q }) hr hf
    rw [hstep, hread, hflag] at ht
    rw [hstep, hread]
    cases ht
    exact ⟨_, rfl, rfl⟩
  · have hstep (x : RegWord) := step_of_rxdRead (s := { s with reads := x :: q }) hr hf
    rw [hstep] at ht ⊢
    exact execSRxdRead_of_same_lowByte (lowByte_congr hvw) ht

/-- Settles O54: each polling state stays through any number of answers that keep it polling. -/
theorem decoderHangsWithoutStatusOrFlag : Obligations.DecoderHangsWithoutStatusOrFlag :=
  fun _ _ _ hr hq => ⟨fun hf hp => stepN_of_polls step_decStat_poll hr hf hq hp,
    fun hf hp => stepN_of_polls step_decSi_poll hr hf hq hp⟩

/-- Settles O53, phase by phase: the polls of phase 1, the status, the polls of phase 2, the flag. -/
theorem decoderWaitsInTwoPhases : Obligations.DecoderWaitsInTwoPhases := by
  intro s polls flags v c rest hr hf hpolls hv hflags hc hq
  have hstatus := stepN_until_status hr hf hpolls hv hq
  have hflag := stepN_until_flag (s := { s.afterReads .stat (polls ++ [v]) (flags ++ c :: rest) with
    fsm := .decSi, statQ := maskStatus (lowByte v) }) hr rfl hflags hc rfl
  rw [Nat.add_assoc _ flags.length, stepN_add hstatus hflag]
  simp [State.afterReads, maskStatus, lowByte, Config.statMask]
  omega

/-- Settles O38: the decoder goes on to its first phase. -/
theorem noInfoPollsAgain : Obligations.NoInfoPollsAgain := by
  intro s
  rfl

end Sys2Proof.Machine
end

section
/-! SUPPORT. The proofs of the statements on a transmit (42_transmit.md): the dispatch rows, the straight-line runs between
two decodes, and the whole transaction that the target acknowledges throughout. -/

namespace Sys2Proof.Machine

/-! ## The dispatch step and its rows -/

/-- The dispatch is recorded and the row of `(mode, stat_q)` run (R226). -/
theorem step_of_dispatch {s : State} (hr : s.rst = false) (hf : s.fsm = .dispatch) :
    step s = runRow (s.log (.dispatch (classOf s.statQ))) := by
  rw [step_of_rst hr, hf]
  rfl

/-- The row that is run is the decoded one, for a masked status that is not no-new-state (R98, R226). -/
theorem step_of_dispatch_row {s : State} {q : Byte} (hr : s.rst = false) (hf : s.fsm = .dispatch) (hq : s.statQ = q)
    (hmask : maskStatus q = q) (hn : q ≠ 0xF8#8) :
    step s = exec (statusRow s.mode q) (s.log (.dispatch (classOf q))) := by
  subst hq
  rw [step_of_dispatch hr hf]
  exact runRow_eq_exec (s.log (.dispatch (classOf s.statQ))) hmask hn

/-- The four start rows have one meaning (R151, R152, R171, R172). -/
theorem exec_startRow (s : State) {i : Instr} (hi : i ∈ [Instr.txStart, .txRstart, .rxStart, .rxRstart]) :
    exec i s = .next (s.goto .addrDat) := by
  fin_cases hi <;> rfl

/-- The two acknowledged rows of a transmit have one meaning (R153, R154). -/
theorem exec_ackedRow (s : State) {i : Instr} (hi : i ∈ [Instr.txSlawAck, .txDatwAck]) :
    exec i s = .next s.bytesRemainOrStop := by
  fin_cases hi <;> rfl

/-- The three rows of a NACK by the target have one meaning (R155, R156, R175). -/
theorem exec_nackedRow (s : State) {i : Instr} (hi : i ∈ [Instr.txSlawNack, .txDatwNack, .rxSlarNack]) :
    exec i s = .next s.stopSuccess := by
  fin_cases hi <;> rfl

/-- Arbitration lost has one meaning in both tables (R157, R173). -/
theorem exec_arbLostRow (s : State) {i : Instr} (hi : i ∈ [Instr.txArbLost, .rxArbLost]) :
    exec i s = .next (s.fail .ret) := by
  fin_cases hi <;> rfl

/-- A bus error has one meaning in both tables (R159, R178). -/
theorem exec_busErrorRow (s : State) {i : Instr} (hi : i ∈ [Instr.txBusError, .rxBusError]) :
    exec i s = .next (s.fail .stopSto) := by
  fin_cases hi <;> rfl

/-- Bytes remain: the next one is loaded (R153). -/
theorem bytesRemainOrStop_of_lt {s : State} (h : s.txIdx < s.lenQ) : s.bytesRemainOrStop = s.goto .txdDat := if_pos h

/-- No byte remains: STOP and success (R153). -/
theorem bytesRemainOrStop_of_le {s : State} (h : s.lenQ ≤ s.txIdx) : s.bytesRemainOrStop = s.stopSuccess :=
  if_neg (BitVec.not_lt.mpr h)

/-- A start status leads to the address load in both modes (R151, R152, R171, R172). -/
theorem step_dispatch_start {s : State} (hr : s.rst = false) (hf : s.fsm = .dispatch)
    (hq : s.statQ = 0x08#8 ∨ s.statQ = 0x10#8) :
    step s = .next ((s.log (.dispatch (classOf s.statQ))).goto .addrDat) := by
  have rows (m : Mode) : statusRow m 0x08#8 ∈ [Instr.txStart, .txRstart, .rxStart, .rxRstart] ∧
      statusRow m 0x10#8 ∈ [Instr.txStart, .txRstart, .rxStart, .rxRstart] := by cases m <;> decide
  rcases hq with hq | hq
  · rw [step_of_dispatch_row hr hf hq (by decide) (by decide), exec_startRow _ (rows s.mode).1, hq]
  · rw [step_of_dispatch_row hr hf hq (by decide) (by decide), exec_startRow _ (rows s.mode).2, hq]

/-- An acknowledged status of a transmit leads to the next byte or to STOP (R153, R154). -/
theorem step_dispatch_acked {s : State} (hr : s.rst = false) (hf : s.fsm = .dispatch) (hm : s.mode = .transmit)
    (hq : s.statQ = 0x18#8 ∨ s.statQ = 0x28#8) :
    step s = .next (s.log (.dispatch (classOf s.statQ))).bytesRemainOrStop := by
  have rows : statusRow .transmit 0x18#8 ∈ [Instr.txSlawAck, .txDatwAck] ∧
      statusRow .transmit 0x28#8 ∈ [Instr.txSlawAck, .txDatwAck] := by decide
  rcases hq with hq | hq
  · rw [step_of_dispatch_row hr hf hq (by decide) (by decide), hm, exec_ackedRow _ rows.1, hq]
  · rw [step_of_dispatch_row hr hf hq (by decide) (by decide), hm, exec_ackedRow _ rows.2, hq]

/-! ## The sequencer states that write -/

/-- A step is what the row of its sequencer state answers. -/
theorem step_of_row {s : State} {f : SeqState} {o : Result} (hr : s.rst = false) (hf : s.fsm = f)
    (ho : exec f.row s = o) : step s = o := by
  rw [step_of_rst hr, hf, ho]

/-- START is asserted (R223). -/
theorem step_of_start {s : State} (hr : s.rst = false) (hf : s.fsm = .start) :
    step s = .next ((s.regWrite .conset 0x20#8).goto .decStat) := step_of_row hr hf rfl

/-- The address byte is written (R227). -/
theorem step_of_addrDat {s : State} (hr : s.rst = false) (hf : s.fsm = .addrDat) :
    step s = .next ((s.regWrite .dat (slaByte s.addrQ s.mode)).goto .addrAa) := step_of_row hr hf rfl

/-- ACK-enable follows the address byte; a transmit goes on to the clear of START (R228). -/
theorem step_of_addrAa_transmit {s : State} (hr : s.rst = false) (hf : s.fsm = .addrAa) (hm : s.mode = .transmit) :
    step s = .next ((s.regWrite .conset 0x04#8).goto .staClr) := by
  refine step_of_row hr hf ?_
  rw [SeqState.row, exec, execSAddrAa, hm]
  rfl

/-- ACK-enable follows the address byte; a receive leaves START (R228). -/
theorem step_of_addrAa_receive {s : State} (hr : s.rst = false) (hf : s.fsm = .addrAa) (hm : s.mode = .receive) :
    step s = .next ((s.regWrite .conset 0x04#8).goto .siClr) := by
  refine step_of_row hr hf ?_
  rw [SeqState.row, exec, execSAddrAa, hm]
  rfl

/-- START is cleared (R229). -/
theorem step_of_staClr {s : State} (hr : s.rst = false) (hf : s.fsm = .staClr) :
    step s = .next ((s.regWrite .conclr 0x20#8).goto .siClr) := step_of_row hr hf rfl

/-- The byte the host placed at `tx_idx` is written and the index incremented (R230). -/
theorem step_of_txdDat {s : State} {b : Byte} (hr : s.rst = false) (hf : s.fsm = .txdDat)
    (hb : s.txMem.read s.txIdx.toNat = some b) :
    step s = .next ({ s.regWrite .dat b with txIdx := s.txIdx + 1#16 }.goto .txdAa) := by
  have hbyte : s.txByte = b := by rw [State.txByte, hb, Option.getD_some]
  rw [← hbyte]
  exact step_of_row hr hf rfl

/-- ACK-enable follows the data byte (R231). -/
theorem step_of_txdAa {s : State} (hr : s.rst = false) (hf : s.fsm = .txdAa) :
    step s = .next ((s.regWrite .conset 0x04#8).goto .siClr) := step_of_row hr hf rfl

/-- The transfer-complete flag is cleared (R235). -/
theorem step_of_siClr {s : State} (hr : s.rst = false) (hf : s.fsm = .siClr) :
    step s = .next ((s.regWrite .conclr 0x08#8).goto .decStat) := step_of_row hr hf rfl

/-- STOP is asserted (R237). -/
theorem step_of_stopSto {s : State} (hr : s.rst = false) (hf : s.fsm = .stopSto) :
    step s = .next ((s.regWrite .conset 0x10#8).goto .stopSi) := step_of_row hr hf rfl

/-- STOP is followed by the flag clear (R238). -/
theorem step_of_stopSi {s : State} (hr : s.rst = false) (hf : s.fsm = .stopSi) :
    step s = .next ((s.regWrite .conclr 0x08#8).goto .ret) := step_of_row hr hf rfl

/-- The response is given and the CORE goes idle (R250). -/
theorem step_of_ret {s : State} (hr : s.rst = false) (hf : s.fsm = .ret) : step s = .next s.respond :=
  step_of_row hr hf rfl

/-- The state in which a `TRANSMIT` with the bytes `data` has left the port and its operands are latched (R150). -/
def State.acceptTransmit (s : State) (a : Addr) (n : Len) (data : List Byte) (q : List HostCmd) : State :=
  { s.accept ⟨CmdWord.mk 1#3 a n, data⟩ q with mode := .transmit, addrQ := a, lenQ := n, txIdx := 0#16, fsm := .start }

/-- The acceptance of a `TRANSMIT` whose length fits (R150, R222). -/
theorem step_accept_transmit {s : State} {a : Addr} {n : Len} {data : List Byte} {q : List HostCmd} (hr : s.rst = false)
    (hf : s.fsm = .idle) (hn : n.toNat < s.lenW.cells) (hc : s.cmds = ⟨CmdWord.mk 1#3 a n, data⟩ :: q) :
    step s = .next (s.acceptTransmit a n data q) := by
  have hdec : decodeCmd s.lenW (CmdWord.mk 1#3 a n) = .transmit a n :=
    Except.ok.inj (decode_encode (i := .transmit a n) ((s.lenW.fits_iff n).mpr hn))
  rw [step_of_idle_cons hr hf hc, hdec]
  rfl

/-! ## Straight-line runs -/

/-- A run begins with its first step. -/
theorem stepN_succ {n : Nat} {s t : State} {o : Result} (h : step s = .next t) (hn : stepN n t = o) :
    stepN (n + 1) s = o := by
  rw [stepN, h]
  exact hn

/-- A start row of a transmit to its end: the address byte, ACK-enable, the clear of START, the flag clear (R161). -/
theorem stepN_startRow_transmit {s : State} (hr : s.rst = false) (hf : s.fsm = .dispatch)
    (hq : s.statQ = 0x08#8 ∨ s.statQ = 0x10#8) (hm : s.mode = .transmit) :
    stepN 5 s = .next { s with
      fsm := .decStat, ctl := (s.ctl ||| 0x04#8) &&& 0xD7#8, tick := s.tick + 4,
      trace := s.trace ++ [.dispatch (classOf s.statQ), .regWrite .dat (slaByte s.addrQ .transmit),
        .regWrite .conset 0x04#8, .regWrite .conclr 0x20#8, .regWrite .conclr 0x08#8] } := by
  refine stepN_succ (step_dispatch_start hr hf hq) <| stepN_succ (step_of_addrDat hr rfl) <|
    stepN_succ (step_of_addrAa_transmit hr rfl hm) <| stepN_succ (step_of_staClr hr rfl) <|
    stepN_succ (step_of_siClr hr rfl) ?_
  simp [stepN, State.goto, State.regWrite, State.log, ctlAfterWrite, hm, BitVec.and_assoc]

/-- A start row of a receive to its end: START is not cleared (R180). -/
theorem stepN_startRow_receive {s : State} (hr : s.rst = false) (hf : s.fsm = .dispatch)
    (hq : s.statQ = 0x08#8 ∨ s.statQ = 0x10#8) (hm : s.mode = .receive) :
    stepN 4 s = .next { s with
      fsm := .decStat, ctl := (s.ctl ||| 0x04#8) &&& 0xF7#8, tick := s.tick + 3,
      trace := s.trace ++ [.dispatch (classOf s.statQ), .regWrite .dat (slaByte s.addrQ .receive),
        .regWrite .conset 0x04#8, .regWrite .conclr 0x08#8] } := by
  refine stepN_succ (step_dispatch_start hr hf hq) <| stepN_succ (step_of_addrDat hr rfl) <|
    stepN_succ (step_of_addrAa_receive hr rfl hm) <| stepN_succ (step_of_siClr hr rfl) ?_
  simp [stepN, State.goto, State.regWrite, State.log, ctlAfterWrite, hm]

/-- An acknowledged row with a byte left to its end: the byte, ACK-enable, the flag clear (R153, R154). -/
theorem stepN_nextByte {s : State} {b : Byte} (hr : s.rst = false) (hf : s.fsm = .dispatch) (hm : s.mode = .transmit)
    (hq : s.statQ = 0x18#8 ∨ s.statQ = 0x28#8) (hlt : s.txIdx < s.lenQ) (hb : s.txMem.read s.txIdx.toNat = some b) :
    stepN 4 s = .next { s with
      fsm := .decStat, txIdx := s.txIdx + 1#16, ctl := (s.ctl ||| 0x04#8) &&& 0xF7#8, tick := s.tick + 3,
      trace := s.trace ++ [.dispatch (classOf s.statQ), .regWrite .dat b, .regWrite .conset 0x04#8,
        .regWrite .conclr 0x08#8] } := by
  have hrow := step_dispatch_acked hr hf hm hq
  rw [bytesRemainOrStop_of_lt (s := s.log _) hlt] at hrow
  refine stepN_succ hrow <| stepN_succ (step_of_txdDat hr rfl hb) <|
    stepN_succ (step_of_txdAa hr rfl) <| stepN_succ (step_of_siClr hr rfl) ?_
  simp [stepN, State.goto, State.regWrite, State.log, ctlAfterWrite]

/-- The end of a transaction that issues STOP: STOP, the flag clear, the response (R162 (c)). -/
theorem stepN_stop {s : State} (hr : s.rst = false) (hf : s.fsm = .stopSto) :
    stepN 3 s = .next { s with
      fsm := .idle, ctl := (s.ctl ||| 0x10#8) &&& 0xF7#8, tick := s.tick + 2,
      trace := s.trace ++ [.regWrite .conset 0x10#8, .regWrite .conclr 0x08#8, .rsp s.result] } := by
  refine stepN_succ (step_of_stopSto hr hf) <| stepN_succ (step_of_stopSi hr rfl) <|
    stepN_succ (step_of_ret hr rfl) ?_
  simp [stepN, State.respond, State.goto, State.regWrite, State.log, ctlAfterWrite]

/-- A decode that finds a status at once latches it and dispatches (R141, R142). -/
theorem stepN_decode {s : State} {code : Byte} {q : List RegWord} (hr : s.rst = false) (hf : s.fsm = .decStat)
    (hmask : maskStatus code = code) (hn : code ≠ Config.stNoInfo) (hq : s.reads = decodeReads code ++ q) :
    stepN 2 s = .next { s with
      fsm := .dispatch, statQ := code, reads := q, tick := s.tick + 2,
      trace := s.trace ++ [.regRead .stat (code.setWidth 32), .regRead .conset 0x08#32] } := by
  have hlow : maskStatus (lowByte (code.setWidth 32)) = code := by
    rw [lowByte, BitVec.setWidth_setWidth_of_le code (by decide), BitVec.setWidth_eq, hmask]
  have hlatch := step_decStat_latch hr hf hq (by rw [hlow]; exact hn)
  rw [hlow] at hlatch
  refine stepN_succ hlatch <| stepN_succ (step_decSi_flag hr rfl rfl (by decide)) ?_
  simp [stepN, State.afterReads]

/-! ## The obligations on the acceptance, the rows and the start -/

/-- Settles O22: the state the acceptance leaves is `s` with the five fields written. -/
theorem transmitLatchesItsOperands : Obligations.TransmitLatchesItsOperands :=
  fun _ _ _ => ⟨_, rfl, rfl, rfl, rfl, rfl, rfl, rfl⟩

/-- Settles O32: the start rows' one meaning, written out as a record. -/
theorem startRowsLoadTheAddress : Obligations.StartRowsLoadTheAddress :=
  fun s _ hi => exec_startRow s hi

/-- Settles O33, by the two branches of "bytes remain or stop". -/
theorem ackedRowsLoadOrStop : Obligations.AckedRowsLoadOrStop := by
  intro s i hi
  rw [exec_ackedRow s hi]
  refine ⟨fun hlt => ?_, fun hle => ?_⟩
  · rw [bytesRemainOrStop_of_lt hlt]
    rfl
  · rw [bytesRemainOrStop_of_le hle]
    rfl

/-- Settles O34: the NACK rows' one meaning, written out as a record. -/
theorem nackedRowsStopWithSuccess : Obligations.NackedRowsStopWithSuccess :=
  fun s _ hi => exec_nackedRow s hi

/-- Settles O35: each failure's one meaning in the two tables, written out as a record. -/
theorem failureRowsReturnTheRawCode : Obligations.FailureRowsReturnTheRawCode :=
  fun s _ => ⟨exec_arbLostRow s, exec_busErrorRow s⟩

/-- Settles O55, mode by mode. -/
theorem startRowsToTheirEnd : Obligations.StartRowsToTheirEnd :=
  fun _ hr hf hq => ⟨stepN_startRow_transmit hr hf hq, stepN_startRow_receive hr hf hq⟩

/-- Settles O20, by the cases of the dispatch: a row that goes on does not end the transaction, STOP with success and bus
error leave 0, and the statuses of the default arm have no row. -/
theorem nonzeroResponseOnlyOnLossOrDefault : Obligations.NonzeroResponseOnlyOnLossOrDefault := by
  intro s t hr hf ht hend hres
  rw [step_of_dispatch hr hf] at ht
  obtain ⟨u, hu, hk⟩ := runRow_cases (s.log (.dispatch (classOf s.statQ)))
  rw [hu] at ht
  cases ht
  rcases hk with ⟨-, rfl⟩ | ⟨-, -, rfl⟩ | ⟨-, rfl⟩ | ⟨hq, rfl⟩ | ⟨hq, rfl⟩ | ⟨-, -, rfl⟩ | ⟨-, -, rfl⟩ | ⟨hq, rfl⟩
  · simp at hend
  · by_cases hlt : s.txIdx < s.lenQ
    · rw [bytesRemainOrStop_of_lt (s := s.log _) hlt] at hend
      simp at hend
    · rw [bytesRemainOrStop_of_le (s := s.log _) (BitVec.not_lt.mp hlt)] at hres
      exact absurd rfl hres
  · exact absurd rfl hres
  · exact .inl hq
  · exact absurd (by rw [fail_result, hq]; rfl) hres
  · simp at hend
  · simp at hend
  · exact .inr ⟨not_mem_rowCodes_of_default hq, by simp [FaultBit.mask], rfl, rfl, rfl⟩

/-! ## A transmit that is acknowledged throughout

`Sends` is the shape of every part of it: a run with what it writes to `DAT`. The parts compose, and the middle one is
an induction over the bytes that are left. -/

/-- A run leads from `s` to `t` that writes `bytes` to `DAT`, in this order, asserts no STOP, and leaves what an accepted
transmit leaves: the transaction registers, the receive buffer, the fault bits and the host's inputs. -/
structure Sends (s t : State) (bytes : List Byte) : Prop where
  run : ∃ k, stepN k s = .next t
  record : ∃ evs, t.trace = s.trace ++ evs ∧ evs.filterMap Event.datWrite = bytes ∧
    Event.regWrite .conset 0x10#8 ∉ evs
  frame : t = { s with
    fsm := t.fsm, txIdx := t.txIdx, statQ := t.statQ, result := t.result, ctl := t.ctl, reads := t.reads, tick := t.tick,
    trace := t.trace }

theorem Sends.trans {s t u : State} {bs cs : List Byte} (hst : Sends s t bs) (htu : Sends t u cs) :
    Sends s u (bs ++ cs) := by
  obtain ⟨⟨k, hk⟩, ⟨evs, htr, hdat, hstop⟩, hframe⟩ := hst
  obtain ⟨⟨l, hl⟩, ⟨evs', htr', hdat', hstop'⟩, hframe'⟩ := htu
  refine ⟨⟨k + l, stepN_add hk hl⟩, ⟨evs ++ evs', ?_, ?_, ?_⟩, ?_⟩
  · rw [htr', htr, List.append_assoc]
  · rw [List.filterMap_append, hdat, hdat']
  · rw [List.mem_append]
    exact fun h => h.elim hstop hstop'
  · rw [hframe', hframe]

/-- START is asserted; nothing is sent. -/
theorem sends_start {s : State} (hr : s.rst = false) (hf : s.fsm = .start) :
    Sends s ((s.regWrite .conset 0x20#8).goto .decStat) [] where
  run := ⟨1, (stepN_one s).trans (step_of_start hr hf)⟩
  record := ⟨_, rfl, rfl, by decide⟩
  frame := rfl

/-- The decode of a status that the environment shows at once sends nothing. -/
theorem sends_decode {s : State} {code : Byte} {q : List RegWord} (hr : s.rst = false) (hf : s.fsm = .decStat)
    (hmask : maskStatus code = code) (hn : code ≠ Config.stNoInfo) (hq : s.reads = decodeReads code ++ q) :
    ∃ t, Sends s t [] ∧ t.fsm = .dispatch ∧ t.statQ = code ∧ t.reads = q ∧ t.txIdx = s.txIdx :=
  ⟨_, ⟨⟨2, stepN_decode hr hf hmask hn hq⟩, ⟨_, rfl, rfl, by simp⟩, rfl⟩, rfl, rfl, rfl, rfl⟩

/-- The start row of a transmit sends the address byte. -/
theorem sends_address {s : State} (hr : s.rst = false) (hf : s.fsm = .dispatch) (hm : s.mode = .transmit)
    (hq : s.statQ = 0x08#8) :
    ∃ t, Sends s t [slaByte s.addrQ .transmit] ∧ t.fsm = .decStat ∧ t.reads = s.reads ∧ t.txIdx = s.txIdx :=
  ⟨_, ⟨⟨5, stepN_startRow_transmit hr hf (.inl hq) hm⟩, ⟨_, rfl, rfl, by simp⟩, rfl⟩, rfl, rfl, rfl⟩

/-- An acknowledged row with a byte left sends it. -/
theorem sends_nextByte {s : State} {b : Byte} (hr : s.rst = false) (hf : s.fsm = .dispatch) (hm : s.mode = .transmit)
    (hq : s.statQ = 0x18#8 ∨ s.statQ = 0x28#8) (hlt : s.txIdx < s.lenQ) (hb : s.txMem.read s.txIdx.toNat = some b) :
    ∃ t, Sends s t [b] ∧ t.fsm = .decStat ∧ t.reads = s.reads ∧ t.txIdx = s.txIdx + 1#16 :=
  ⟨_, ⟨⟨4, stepN_nextByte hr hf hm hq hlt hb⟩, ⟨_, rfl, rfl, by simp⟩, rfl⟩, rfl, rfl, rfl⟩

/-- An acknowledged row with no byte left sends nothing and goes to STOP with success. -/
theorem sends_lastAck {s : State} (hr : s.rst = false) (hf : s.fsm = .dispatch) (hm : s.mode = .transmit)
    (hq : s.statQ = 0x18#8 ∨ s.statQ = 0x28#8) (hle : s.lenQ ≤ s.txIdx) :
    ∃ t, Sends s t [] ∧ t.fsm = .stopSto ∧ t.result = 0x0000#16 ∧ t.reads = s.reads ∧ t.txIdx = s.txIdx := by
  have hrow := step_dispatch_acked hr hf hm hq
  rw [bytesRemainOrStop_of_le (s := s.log _) hle, ← stepN_one] at hrow
  exact ⟨_, ⟨⟨1, hrow⟩, ⟨_, rfl, rfl, by simp⟩, rfl⟩, rfl, rfl, rfl, rfl⟩

/-- `s` stands in the dispatch of an acknowledgement in a transmit whose data is `sent ++ left`, with `sent` behind it,
and the environment will acknowledge each byte of `left` and then answer `rest`. -/
structure State.AckedAfter (s : State) (sent left : List Byte) (rest : List RegWord) : Prop where
  released : s.rst = false
  dispatching : s.fsm = .dispatch
  transmitting : s.mode = .transmit
  acked : s.statQ = 0x18#8 ∨ s.statQ = 0x28#8
  length : s.lenQ.toNat = sent.length + left.length
  index : s.txIdx.toNat = sent.length
  data : s.txMem = Memory.ofBytes (sent ++ left)
  answers : s.reads = (List.replicate left.length (decodeReads Config.stDatwAck)).flatten ++ rest

/-- The next byte is sent, and its acknowledgement finds one byte more behind it. -/
theorem State.AckedAfter.next {s : State} {sent left : List Byte} {b : Byte} {rest : List RegWord}
    (h : s.AckedAfter sent (b :: left) rest) : ∃ t, Sends s t [b] ∧ t.AckedAfter (sent ++ [b]) left rest := by
  obtain ⟨hr, hf, hm, hq, hlen, hidx, hdata, hans⟩ := h
  rw [List.length_cons] at hlen
  have hlt : s.txIdx < s.lenQ := by bv_omega
  have hbyte : s.txMem.read s.txIdx.toNat = some b := by simp [hdata, hidx]
  obtain ⟨t, hst, htf, htq, hti⟩ := sends_nextByte hr hf hm hq hlt hbyte
  rw [hans, List.length_cons, List.replicate_succ, List.flatten_cons, List.append_assoc] at htq
  obtain ⟨u, htu, huf, hus, huq, hui⟩ := sends_decode (by rw [hst.frame]; exact hr) htf (by decide) (by decide) htq
  have hsu := hst.trans htu
  have hframe := hsu.frame
  have hnext : (s.txIdx + 1#16).toNat = sent.length + 1 := by bv_omega
  exact ⟨u, hsu, {
    released := by rw [hframe]; exact hr
    dispatching := huf
    transmitting := by rw [hframe]; exact hm
    acked := .inr hus
    length := by rw [hframe, List.length_append, List.length_singleton, Nat.add_assoc, Nat.add_comm 1]; exact hlen
    index := by rw [hui, hti, hnext, List.length_append, List.length_singleton]
    data := by rw [hframe, List.append_assoc]; exact hdata
    answers := huq }⟩

/-- From an acknowledgement on, the bytes left are sent and the transmit goes to STOP with success. -/
theorem State.AckedAfter.sends_left {s : State} {sent left : List Byte} {rest : List RegWord}
    (h : s.AckedAfter sent left rest) :
    ∃ t, Sends s t left ∧ t.fsm = .stopSto ∧ t.result = 0x0000#16 ∧ t.reads = rest ∧
      t.txIdx.toNat = sent.length + left.length := by
  induction left generalizing s sent with
  | nil =>
    obtain ⟨hr, hf, hm, hq, hlen, hidx, -, hans⟩ := h
    rw [List.length_nil] at hlen
    obtain ⟨t, hst, htf, htres, htq, hti⟩ := sends_lastAck hr hf hm hq (by bv_omega)
    exact ⟨t, hst, htf, htres, htq.trans hans, by rw [hti]; exact hidx⟩
  | cons b left ih =>
    obtain ⟨t, hst, ht⟩ := h.next
    obtain ⟨u, htu, huf, hures, huq, hui⟩ := ih ht
    refine ⟨u, hst.trans htu, huf, hures, huq, ?_⟩
    rw [hui, List.length_append, List.length_cons, List.length_cons, List.length_nil]
    omega

/-- From `S_START` of a transmit to the acknowledgement of its address: the address byte is sent. -/
theorem sends_until_acked {s : State} {data : List Byte} {rest : List RegWord} (hr : s.rst = false) (hf : s.fsm = .start)
    (hm : s.mode = .transmit) (hlen : s.lenQ.toNat = data.length) (hidx : s.txIdx = 0#16)
    (hdata : s.txMem = Memory.ofBytes data) (hq : s.reads = transmitAckedReads data.length ++ rest) :
    ∃ t, Sends s t [slaByte s.addrQ .transmit] ∧ t.AckedAfter [] data rest := by
  rw [transmitAckedReads, List.append_assoc, List.append_assoc] at hq
  have hstart := sends_start hr hf
  obtain ⟨t, ht, htf, hts, htq, hti⟩ :=
    sends_decode (s := (s.regWrite .conset 0x20#8).goto .decStat) hr rfl (by decide) (by decide) hq
  obtain ⟨u, hu, huf, huq, hui⟩ :=
    sends_address (by rw [ht.frame]; exact hr) htf (by rw [ht.frame]; exact hm) hts
  obtain ⟨v, hv, hvf, hvs, hvq, hvi⟩ :=
    sends_decode (by rw [(ht.trans hu).frame]; exact hr) huf (by decide) (by decide) (huq.trans htq)
  have hsv := (hstart.trans ht).trans (hu.trans hv)
  rw [show t.addrQ = s.addrQ by rw [ht.frame]; rfl] at hsv
  have hframe := hsv.frame
  exact ⟨v, hsv, {
    released := by rw [hframe]; exact hr
    dispatching := hvf
    transmitting := by rw [hframe]; exact hm
    acked := .inl hvs
    length := by rw [hframe, List.length_nil, Nat.zero_add]; exact hlen
    index := by rw [hvi, hui, hti]; exact congrArg BitVec.toNat hidx
    data := by rw [hframe]; exact hdata
    answers := hvq }⟩

/-- Settles O59: the acceptance, the address and its acknowledgement, the bytes by induction, and the stop states. -/
theorem ackedTransmitSendsEveryByteThenStops : Obligations.AckedTransmitSendsEveryByteThenStops := by
  intro s a data q rest hr hf hlen hc hq
  have hn : (BitVec.ofNat 16 data.length).toNat = data.length := by
    rw [BitVec.toNat_ofNat]
    exact Nat.mod_eq_of_lt (Nat.lt_of_lt_of_le hlen s.lenW.cells_le)
  obtain ⟨t, ht, hacked⟩ := sends_until_acked (s := s.acceptTransmit a (BitVec.ofNat 16 data.length) data q)
    hr rfl rfl hn rfl rfl hq
  obtain ⟨u, hu, huf, hures, huq, hui⟩ := hacked.sends_left
  obtain ⟨⟨k, hk⟩, ⟨evs, htr, hdat, hstop⟩, hframe⟩ := ht.trans hu
  have hend := stepN_stop (s := u) (by rw [hframe]; exact hr) huf
  refine ⟨k + 3 + 1, _, .cmd (CmdWord.onPort s.lenW (CmdWord.mk 1#3 a (BitVec.ofNat 16 data.length))) :: evs,
    stepN_succ (step_accept_transmit hr hf (by rwa [hn]) hc) (stepN_add hk hend), rfl, hures, ?fault, ?index, huq, ?cmds,
    ?rxBuf, ?cursor, ?allocLen, ?trace, hdat, ?stop⟩
  case index => simpa using hui
  case trace => rw [htr, hures]; simp [State.acceptTransmit]
  case stop => simpa using hstop
  all_goals rw [hframe]; rfl

end Sys2Proof.Machine
end

section
/-! SUPPORT. The proofs of the statements on a receive (43_receive.md): the commands that use the buffer, the dispatch rows,
what a step can do to the buffer, what the buffer holds, and the whole transaction that succeeds. -/

namespace Sys2Proof.Machine

/-! ## The commands and the dispatch rows -/

/-- `AVAILABLE` responds with the cursor (R184). -/
theorem exec_available (s : State) : exec .available s = .next (s.finish (respOfLen s.cursor) .ret) := rfl

/-- `READ` below the cursor responds with the byte stored in the cell (R185). -/
theorem exec_read_of_lt {s : State} {n : Len} {b : Byte} (hlt : n < s.cursor) (hcell : n.toNat < s.lenW.cells)
    (hb : s.rxBuf.read n.toNat = some b) : exec (.read n) s = .next (s.finish (respOfByte b) .ret) := by
  rw [exec, execRead, if_pos hlt, if_pos hcell, State.rxCell, hb, Option.getD_some]

/-- `READ` at or above the cursor responds with the sentinel (R185). -/
theorem exec_read_of_le {s : State} {n : Len} (hle : s.cursor ≤ n) :
    exec (.read n) s = .next (s.finish Config.sentinel .ret) :=
  if_neg (BitVec.not_lt.mpr hle)

/-- `READ` of a cell that exists responds, and changes nothing but the response and the sequencer state (R185). -/
theorem exec_read_frame {s : State} {n : Len} (hcell : n.toNat < s.lenW.cells) :
    ∃ v, exec (.read n) s = .next (s.finish v .ret) := by
  by_cases hlt : n < s.cursor
  · exact ⟨_, (if_pos hlt).trans (if_pos hcell)⟩
  · exact ⟨_, if_neg hlt⟩

/-- The two data rows of a receive have one meaning (R176, R177). -/
theorem exec_dataRow (s : State) {i : Instr} (hi : i ∈ [Instr.rxDatrAck, .rxDatrNack]) :
    exec i s = .next (s.goto .rxdRead) := by
  fin_cases hi <;> rfl

/-! ## What a step can do to the buffer -/

/-- The allocated length, the cursor and every cell are in `t` what they are in `s`. -/
def KeepsBuffer (s t : State) : Prop := t.allocLen = s.allocLen ∧ t.cursor = s.cursor ∧ t.rxBuf = s.rxBuf

/-- What a step from `s` to `t` does to the receive buffer, and to the bytes its record shows as received. -/
inductive BufferCase (s t : State) : Prop where
  /-- The buffer and the bytes received are kept. -/
  | keeps : KeepsBuffer s t → received t.trace = received s.trace → BufferCase s t
  /-- A `REQUEST` is accepted (R181). -/
  | replaces (c : HostCmd) (q : List HostCmd) : s.fsm = .idle → s.cmds = c :: q → (CmdWord.op c.word).toNat = 2 →
      t.allocLen = CmdWord.n s.lenW c.word → t.cursor = 0#16 → t.rxBuf = s.rxBuf → received t.trace = [] →
      BufferCase s t
  /-- The byte read from `DAT` goes through the guarded store, which leaves `u` (R182). -/
  | stores (u : State) : s.fsm = .rxdRead → (s.regRead .dat).store (lowByte s.regRdata) = .next u → KeepsBuffer u t →
      received t.trace = received s.trace ++ [lowByte s.regRdata] → BufferCase s t

/-- One more event is one more step of what a run has received. -/
theorem received_snoc (tr : List Event) (e : Event) : received (tr ++ [e]) = receivedStep (received tr) e :=
  received_append tr [e]

/-- A step that records one event, which is no `REQUEST` and no read of `DAT`, and keeps the buffer. -/
theorem BufferCase.of_event {s t : State} {e : Event} (hk : KeepsBuffer s t) (htr : t.trace = s.trace ++ [e])
    (he : ∀ got, receivedStep got e = got) : BufferCase s t :=
  .keeps hk (by rw [htr, received_snoc, he])

/-- The store records no byte as received: the read before it did. -/
theorem store_received {s u : State} {b : Byte} (hu : s.store b = .next u) : received u.trace = received s.trace := by
  rcases store_cases hu with ⟨-, -, rfl⟩ | ⟨-, rfl⟩
  · rfl
  · exact received_snoc s.trace (.faultSet .rxOverrun)

theorem afterStore_keepsBuffer (s : State) : KeepsBuffer s s.afterStore := by
  rw [afterStore_eq]
  exact ⟨rfl, rfl, rfl⟩

/-- The acceptance of any command but `REQUEST` leaves what has been received. -/
theorem received_accept {s : State} {c : HostCmd} (q : List HostCmd) (ho : (CmdWord.op c.word).toNat ≠ 2) :
    received (s.accept c q).trace = received s.trace := by
  have hne : CmdWord.op c.word ≠ 2#3 := fun h => ho (by rw [h]; rfl)
  rw [accept_trace, received_snoc, receivedStep, CmdWord.op_onPort, if_neg hne]

/-- The acceptance of a `REQUEST` begins what is received anew. -/
theorem received_accept_request {s : State} {c : HostCmd} (q : List HostCmd) (ho : (CmdWord.op c.word).toNat = 2) :
    received (s.accept c q).trace = [] := by
  have heq : CmdWord.op c.word = 2#3 := BitVec.eq_of_toNat_eq ho
  rw [accept_trace, received_snoc, receivedStep, CmdWord.op_onPort, if_pos heq]

/-- An acceptance replaces the buffer for a `REQUEST` and keeps it for every other command (R181, R186). -/
theorem accept_bufferCase {s t : State} {c : HostCmd} {q : List HostCmd} (hf : s.fsm = .idle) (hc : s.cmds = c :: q)
    (hrun : runCommand c.word (s.accept c q) = .next t) : BufferCase s t := by
  obtain ⟨u, hu, hk⟩ := runCommand_cases c.word (s.accept c q)
  rw [hu] at hrun
  cases hrun
  rcases hk with ⟨ho, rfl⟩ | ⟨ho, rfl⟩ | ⟨ho, rfl⟩ | ⟨ho, hfin⟩ | ⟨ho, rfl⟩
  · refine .keeps ⟨rfl, rfl, rfl⟩ ?_
    exact (received_snoc _ .initSeq).trans (received_accept q (by omega))
  · exact .keeps ⟨rfl, rfl, rfl⟩ (received_accept q (by omega))
  · exact .replaces c q hf hc ho rfl rfl rfl (received_accept_request q ho)
  · rw [hfin]
    exact .keeps ⟨rfl, rfl, rfl⟩ (received_accept q (by omega))
  · exact .keeps ⟨rfl, rfl, rfl⟩ (received_accept q (by omega))

/-- Every step with the reset input released is one of the three. -/
theorem StepCase.bufferCase {s t : State} (hst : StepCase s t) : BufferCase s t := by
  cases hst with
  | stutter => exact .keeps ⟨rfl, rfl, rfl⟩ rfl
  | accept c q hf hc hrun => exact accept_bufferCase hf hc hrun
  | dispatch _ hrow =>
    rw [runRow_frame hrow]
    exact .of_event (e := .dispatch (classOf s.statQ)) ⟨rfl, rfl, rfl⟩ rfl fun _ => rfl
  | rxdRead u hf hu =>
    refine .stores u hf hu (afterStore_keepsBuffer u) ?_
    rw [afterStore_eq]
    exact (store_received hu).trans (received_snoc s.trace _)
  | poll | latch => exact .of_event ⟨rfl, rfl, rfl⟩ (regRead_trace s .stat) fun _ => rfl
  | flagLow | flagHigh => exact .of_event ⟨rfl, rfl, rfl⟩ (regRead_trace s .conset) fun _ => rfl
  | ret => exact .of_event ⟨rfl, rfl, rfl⟩ (respond_trace s) fun _ => rfl
  | _ => exact .of_event ⟨rfl, rfl, rfl⟩ (regWrite_trace s _ _) fun _ => rfl

/-! ## What the buffer holds -/

/-- The buffer holds the bytes `got`, in order, as many as fit the allocated length: the form of R183 for any list. -/
structure State.HoldsBytes (s : State) (got : List Byte) : Prop where
  count : s.cursor.toNat = min got.length s.allocLen.toNat
  cells : ∀ i < s.cursor.toNat, s.rxBuf.read i = got[i]?

/-- R183 is that the buffer holds what the record shows as received. -/
theorem bufferInv_iff (s : State) : s.BufferInv ↔ s.HoldsBytes (received s.trace) :=
  ⟨fun ⟨hcount, hcells⟩ => ⟨hcount, hcells⟩, fun ⟨hcount, hcells⟩ => ⟨hcount, hcells⟩⟩

theorem State.HoldsBytes.of_keeps {s t : State} {got : List Byte} (h : s.HoldsBytes got) (hk : KeepsBuffer s t) :
    t.HoldsBytes got := by
  obtain ⟨halloc, hcursor, hbuf⟩ := hk
  exact ⟨by rw [hcursor, halloc]; exact h.count, by rw [hcursor, hbuf]; exact h.cells⟩

/-- With the cursor at 0 the buffer holds nothing. -/
theorem holdsBytes_nil {s : State} (h : s.cursor = 0#16) : s.HoldsBytes [] :=
  ⟨by simp [h], fun i hi => by simp [h] at hi⟩

/-- The guarded store keeps R183: with room the byte follows those the buffer holds, without room the cap hides it. -/
theorem State.HoldsBytes.store {s u : State} {got : List Byte} {b : Byte} (h : s.HoldsBytes got)
    (hwf : s.rxBuf.wf = true) (hu : s.store b = .next u) : u.HoldsBytes (got ++ [b]) := by
  obtain ⟨hcount, hcells⟩ := h
  rcases store_cases hu with ⟨hlt, -, rfl⟩ | ⟨hge, rfl⟩
  · have hlen : got.length = s.cursor.toNat := by bv_omega
    have hadd : (s.cursor + 1#16).toNat = s.cursor.toNat + 1 := by bv_omega
    refine ⟨?_, fun i hi => ?_⟩
    · show (s.cursor + 1#16).toNat = min (got ++ [b]).length s.allocLen.toNat
      rw [hadd, List.length_append, List.length_singleton]
      bv_omega
    · have hi : i < s.cursor.toNat + 1 := hadd ▸ hi
      show (s.rxBuf.write s.cursor.toNat b).read i = (got ++ [b])[i]?
      rw [Memory.read_write _ _ _ hwf]
      split
      next heq => rw [heq, ← hlen, List.getElem?_concat_length]
      next hne => rw [List.getElem?_append_left (by omega), hcells i (by omega)]
  · have hfull : s.allocLen.toNat ≤ s.cursor.toNat := BitVec.not_lt.mp hge
    refine ⟨?_, fun i hi => ?_⟩
    · show s.cursor.toNat = min (got ++ [b]).length s.allocLen.toNat
      rw [List.length_append]
      omega
    · have hi : i < s.cursor.toNat := hi
      rw [List.getElem?_append_left (by omega)]
      exact hcells i hi

/-- The reset empties the buffer, whatever the record, which it keeps, shows (log 11). -/
theorem applyReset_bufferInv (s : State) : s.applyReset.BufferInv where
  count := (Nat.min_zero _).symm
  cells _ hi := absurd hi (Nat.not_lt_zero _)

/-- Every step with the reset input released keeps R183. -/
theorem BufferCase.keeps_bufferInv {s t : State} (hwf : s.rxBuf.wf = true) (h : s.BufferInv) (hst : BufferCase s t) :
    t.BufferInv := by
  rw [bufferInv_iff] at h ⊢
  cases hst with
  | keeps hk hrec => rw [hrec]; exact h.of_keeps hk
  | replaces c q _ _ _ _ hcursor _ hrec => rw [hrec]; exact holdsBytes_nil hcursor
  | stores u _ hu hk hrec =>
    have hread : (s.regRead .dat).HoldsBytes (received s.trace) := h.of_keeps ⟨rfl, rfl, rfl⟩
    rw [hrec]
    exact (hread.store hwf hu).of_keeps hk

/-- A buffer with room for all the bytes it holds has the cursor behind them. -/
theorem State.HoldsBytes.cursor_eq {s : State} {got : List Byte} (h : s.HoldsBytes got)
    (hlen : got.length ≤ s.allocLen.toNat) : s.cursor.toNat = got.length := by
  rw [h.count, Nat.min_eq_left hlen]

/-- `READ i` answers the `i`-th byte the buffer holds (R185, R183). -/
theorem State.HoldsBytes.exec_read {s : State} {got : List Byte} {i : Len} {b : Byte} (h : s.HoldsBytes got)
    (hlen : got.length ≤ s.allocLen.toNat) (hroom : s.allocLen.toNat < s.lenW.cells) (hb : got[i.toNat]? = some b) :
    exec (.read i) s = .next (s.finish (respOfByte b) .ret) := by
  have hlt : i.toNat < got.length := (List.getElem?_eq_some_iff.mp hb).1
  have hcursor : i.toNat < s.cursor.toNat := by rwa [h.cursor_eq hlen]
  exact exec_read_of_lt hcursor (by omega) ((h.cells _ hcursor).trans hb)

/-! ## The obligations on the commands, the rows and the buffer -/

/-- Settles O5: the reset empties the buffer, and every other step keeps the bytes or stores the one it read. -/
theorem stepKeepsBufferEqualToBytesRead : Obligations.StepKeepsBufferEqualToBytesRead := by
  intro s t hinv h ht
  cases hr : s.rst with
  | true =>
    rw [step_of_reset hr] at ht
    cases ht
    exact applyReset_bufferInv s
  | false => exact (step_cases hr ht).bufferCase.keeps_bufferInv hinv.bufWf h

/-- Settles O18, by what a step can do to the buffer; a store without room keeps it. -/
theorem bufferChangesOnlyByRequestAndStore : Obligations.BufferChangesOnlyByRequestAndStore := by
  intro s t hr hwf ht
  cases (step_cases hr ht).bufferCase with
  | keeps hk => exact .inl hk
  | replaces c q hf hc ho halloc hcursor hbuf => exact .inr (.inl ⟨hf, c, q, hc, ho, halloc, hcursor, hbuf⟩)
  | stores u hf hu hk =>
    obtain ⟨halloc, hcursor, hbuf⟩ := hk
    rcases store_cases hu with ⟨hlt, -, rfl⟩ | ⟨-, rfl⟩
    · refine .inr (.inr ⟨hf, fun hinv => (hinv.of_rxdRead hf).1, hlt, halloc, hcursor, fun i => ?_⟩)
      rw [hbuf]
      exact Memory.read_write _ _ _ hwf
    · exact .inl ⟨halloc, hcursor, hbuf⟩

/-- Settles O23: the state the acceptance leaves is `s` with the six fields written. -/
theorem requestReplacesTheBuffer : Obligations.RequestReplacesTheBuffer :=
  fun _ _ _ => ⟨_, rfl, rfl, rfl, rfl, rfl, rfl, rfl, rfl⟩

/-- Settles O24: the response's container has the cursor's width. -/
theorem availableAnswersTheCursor : Obligations.AvailableAnswersTheCursor :=
  fun s => ⟨_, exec_available s, rfl, rfl, rfl⟩

/-- Settles O25: the answer is the byte's or the sentinel's, by where the index lies. -/
theorem readAnswersStoredByteOrSentinel : Obligations.ReadAnswersStoredByteOrSentinel := by
  intro s n hfits
  have hcell : n.toNat < s.lenW.cells := (s.lenW.fits_iff n).mp hfits
  obtain ⟨v, hv⟩ := exec_read_frame hcell
  refine ⟨_, hv, rfl, fun b hlt hb => ?_, fun hle => ?_, rfl⟩
  · rw [exec_read_of_lt hlt hcell hb] at hv
    cases hv
    exact BitVec.toNat_setWidth_of_le (by decide)
  · rw [exec_read_of_le hle] at hv
    cases hv
    rfl

/-- Settles O36: the address row, and the data rows' one meaning, written out as records. -/
theorem receiveRowsAckOrRead : Obligations.ReceiveRowsAckOrRead :=
  fun s => ⟨rfl, exec_dataRow s (by decide), exec_dataRow s (by decide)⟩

end Sys2Proof.Machine
end

section
/-! SUPPORT. The proof of the statement on a whole receive (43_receive.md R187): the straight-line runs of its rows, and the
bytes by induction. -/

namespace Sys2Proof.Machine

/-! ## The dispatch of a receive, the read state and the ACK state -/

/-- The acknowledged address of a receive leads to the ACK state (R174). -/
theorem step_dispatch_slarAck {s : State} (hr : s.rst = false) (hf : s.fsm = .dispatch) (hm : s.mode = .receive)
    (hq : s.statQ = 0x40#8) : step s = .next ((s.log (.dispatch .slarAck)).goto .ackSet) := by
  rw [step_of_dispatch_row hr hf hq (by decide) (by decide), hm]
  rfl

/-- A data status of a receive leads to the read state (R176, R177). -/
theorem step_dispatch_data {s : State} (hr : s.rst = false) (hf : s.fsm = .dispatch) (hm : s.mode = .receive)
    (hq : s.statQ = 0x50#8 ∨ s.statQ = 0x58#8) :
    step s = .next ((s.log (.dispatch (classOf s.statQ))).goto .rxdRead) := by
  have rows : statusRow .receive 0x50#8 ∈ [Instr.rxDatrAck, .rxDatrNack] ∧
      statusRow .receive 0x58#8 ∈ [Instr.rxDatrAck, .rxDatrNack] := by decide
  rcases hq with hq | hq
  · rw [step_of_dispatch_row hr hf hq (by decide) (by decide), hm, exec_dataRow _ rows.1, hq]
  · rw [step_of_dispatch_row hr hf hq (by decide) (by decide), hm, exec_dataRow _ rows.2, hq]

/-- ACK is asserted (R233). -/
theorem step_of_ackSet {s : State} (hr : s.rst = false) (hf : s.fsm = .ackSet) :
    step s = .next ((s.regWrite .conset 0x04#8).goto .siClr) := step_of_row hr hf rfl

/-- The state in which the byte `b` stands in the cell at the cursor, and the cursor is past it (R182). -/
def State.stored (s : State) (b : Byte) : State :=
  { s with rxBuf := s.rxBuf.write s.cursor.toNat b, cursor := s.cursor + 1#16 }

/-- With room in the buffer the guarded store stores. -/
theorem store_of_lt {s : State} (b : Byte) (hlt : s.cursor < s.allocLen) (hcell : s.allocLen.toNat < s.lenW.cells) :
    s.store b = .next (s.stored b) := by
  have hcursor : s.cursor.toNat < s.lenW.cells := Nat.lt_trans hlt hcell
  rw [State.store, if_pos hlt, if_pos hcursor]
  rfl

/-- The read state reads the byte that is answered and, with room in the buffer, stores it (R232). -/
theorem step_rxdRead_stored {s : State} {b : Byte} {q : List RegWord} (hr : s.rst = false) (hf : s.fsm = .rxdRead)
    (hlt : s.cursor < s.allocLen) (hcell : s.allocLen.toNat < s.lenW.cells) (hq : s.reads = b.setWidth 32 :: q) :
    step s = .next ((s.afterReads .dat [b.setWidth 32] q).stored b).afterStore := by
  have hlow : lowByte s.regRdata = b := by
    rw [regRdata_cons hq, lowByte, BitVec.setWidth_setWidth_of_le b (by decide), BitVec.setWidth_eq]
  rw [step_of_rxdRead hr hf, ← regRead_of_reads hq]
  refine execSRxdRead_of_store_next ?_
  rw [hlow]
  exact store_of_lt b hlt hcell

/-- An acknowledged byte that leaves room for one more is acknowledged (R176). -/
theorem afterStore_of_ack {s : State} (hq : s.statQ = Config.stDatrAck) (hlt : s.cursor < s.allocLen) :
    s.afterStore = s.goto .ackSet := by
  rw [State.afterStore, if_pos hq, if_pos hlt]

/-- A byte that is not acknowledged is the last: STOP and success (R177). -/
theorem afterStore_of_nack {s : State} (hq : s.statQ ≠ Config.stDatrAck) : s.afterStore = s.stopSuccess := if_neg hq

/-- The state in which a data status `st` was decoded and dispatched and its byte `b` read and stored. -/
def State.byteStored (s : State) (st b : Byte) (q : List RegWord) : State :=
  { s.stored b with
    fsm := .rxdRead, statQ := st, reads := q, tick := s.tick + 3
    trace := s.trace ++ [.regRead .stat (st.setWidth 32), .regRead .conset 0x08#32, .dispatch (classOf st),
      .regRead .dat (b.setWidth 32)] }

/-- The decode of a data status, its dispatch, and the read of its byte, with room in the buffer (R176, R177). -/
theorem stepN_dataByte {s : State} {st b : Byte} {q : List RegWord} (hr : s.rst = false) (hf : s.fsm = .decStat)
    (hm : s.mode = .receive) (hst : st = 0x50#8 ∨ st = 0x58#8) (hlt : s.cursor < s.allocLen)
    (hcell : s.allocLen.toNat < s.lenW.cells) (hq : s.reads = decodeReads st ++ b.setWidth 32 :: q) :
    stepN 4 s = .next (s.byteStored st b q).afterStore := by
  have codes : maskStatus st = st ∧ st ≠ Config.stNoInfo := by rcases hst with rfl | rfl <;> decide
  refine stepN_add (n := 2) (stepN_decode hr hf codes.1 codes.2 hq) <| stepN_succ (step_dispatch_data hr rfl hm hst) <|
    stepN_succ (step_rxdRead_stored hr rfl hlt hcell rfl) ?_
  simp [stepN, State.byteStored, State.afterReads, State.stored, State.goto, State.log]

/-- The end of a row that goes on: ACK-enable, the flag clear, the next decode (R174, R176). -/
theorem stepN_ack {s : State} (hr : s.rst = false) (hf : s.fsm = .ackSet) :
    stepN 2 s = .next { s with
      fsm := .decStat, ctl := (s.ctl ||| 0x04#8) &&& 0xF7#8, tick := s.tick + 2,
      trace := s.trace ++ [.regWrite .conset 0x04#8, .regWrite .conclr 0x08#8] } := by
  refine stepN_succ (step_of_ackSet hr hf) <| stepN_succ (step_of_siClr hr rfl) ?_
  simp [stepN, State.goto, State.regWrite, ctlAfterWrite]

/-! ## A receive that succeeds

`Receives` is the shape of every part of it: a run with what it leaves. `State.ReceivingAfter` is what the parts hand on,
and the middle one is an induction over the bytes that are still to come. -/

/-- A run leads from `s` to `t` that leaves what an accepted receive leaves: the transaction registers, the allocated
length, the fault bits and the host's inputs. -/
structure Receives (s t : State) : Prop where
  run : ∃ k, stepN k s = .next t
  frame : t = { s with
    fsm := t.fsm, cursor := t.cursor, rxBuf := t.rxBuf, statQ := t.statQ, result := t.result, ctl := t.ctl,
    reads := t.reads, tick := t.tick, trace := t.trace }

theorem Receives.trans {s t u : State} (hst : Receives s t) (htu : Receives t u) : Receives s u := by
  obtain ⟨⟨k, hk⟩, hframe⟩ := hst
  obtain ⟨⟨l, hl⟩, hframe'⟩ := htu
  exact ⟨⟨k + l, stepN_add hk hl⟩, by rw [hframe', hframe]⟩

/-- `s` stands in the decode of a receive of `got ++ left` and one byte more, holds `got`, and the environment will answer
each byte of `left` with data-received+ack, the last byte with data-received+nack, and then `rest`. -/
structure State.ReceivingAfter (s : State) (got left : List Byte) (last : Byte) (rest : List RegWord) : Prop where
  released : s.rst = false
  decoding : s.fsm = .decStat
  receiving : s.mode = .receive
  canonical : s.rxBuf.wf = true
  holds : s.HoldsBytes got
  length : s.allocLen.toNat = got.length + left.length + 1
  room : s.allocLen.toNat < s.lenW.cells
  answers : s.reads = left.flatMap (fun b => decodeReads Config.stDatrAck ++ [b.setWidth 32]) ++
    (decodeReads Config.stDatrNack ++ last.setWidth 32 :: rest)

/-- The cursor counts the bytes that have come. -/
theorem State.ReceivingAfter.cursor_eq {s : State} {got left : List Byte} {last : Byte} {rest : List RegWord}
    (h : s.ReceivingAfter got left last rest) : s.cursor.toNat = got.length := by
  have hlen := h.length
  exact h.holds.cursor_eq (by omega)

/-- The buffer has room for the next byte. -/
theorem State.ReceivingAfter.cursor_lt {s : State} {got left : List Byte} {last : Byte} {rest : List RegWord}
    (h : s.ReceivingAfter got left last rest) : s.cursor < s.allocLen := by
  have hcursor := h.cursor_eq
  have hlen := h.length
  bv_omega

/-- The stored byte follows those the buffer holds. -/
theorem State.ReceivingAfter.holds_stored {s : State} {got left : List Byte} {last : Byte} {rest : List RegWord}
    (h : s.ReceivingAfter got left last rest) (b : Byte) : (s.stored b).HoldsBytes (got ++ [b]) :=
  h.holds.store h.canonical (store_of_lt b h.cursor_lt h.room)

/-- The next byte comes and is acknowledged, and the decode waits for one more. -/
theorem State.ReceivingAfter.next {s : State} {got left : List Byte} {b last : Byte} {rest : List RegWord}
    (h : s.ReceivingAfter got (b :: left) last rest) :
    ∃ t, Receives s t ∧ t.ReceivingAfter (got ++ [b]) left last rest := by
  have hq := h.answers
  rw [List.flatMap_cons, List.append_assoc, List.append_assoc] at hq
  have hbyte := stepN_dataByte (st := Config.stDatrAck) h.released h.decoding h.receiving (.inl rfl) h.cursor_lt h.room hq
  have hcursor := h.cursor_eq
  have hlen := h.length
  rw [List.length_cons] at hlen
  have hmore : s.cursor + 1#16 < s.allocLen := by bv_omega
  rw [afterStore_of_ack (s := s.byteStored Config.stDatrAck b _) rfl hmore] at hbyte
  have hrun := stepN_add hbyte (stepN_ack h.released rfl)
  exact ⟨_, ⟨⟨_, hrun⟩, rfl⟩, {
    released := h.released
    decoding := rfl
    receiving := h.receiving
    canonical := Memory.write_wf _ _ h.canonical
    holds := (h.holds_stored b).of_keeps ⟨rfl, rfl, rfl⟩
    length := by rw [List.length_append, List.length_singleton, Nat.add_assoc _ 1, Nat.add_comm 1]; exact hlen
    room := h.room
    answers := rfl }⟩

/-- The last byte comes, is not acknowledged, and the receive goes to STOP with success. -/
theorem State.ReceivingAfter.ends {s : State} {got : List Byte} {last : Byte} {rest : List RegWord}
    (h : s.ReceivingAfter got [] last rest) :
    ∃ t, Receives s t ∧ t.fsm = .stopSto ∧ t.result = 0x0000#16 ∧ t.reads = rest ∧ t.HoldsBytes (got ++ [last]) := by
  have nack_ne_ack : Config.stDatrNack ≠ Config.stDatrAck := by decide
  have hbyte := stepN_dataByte (st := Config.stDatrNack) h.released h.decoding h.receiving (.inr rfl) h.cursor_lt h.room
    h.answers
  rw [afterStore_of_nack (s := s.byteStored Config.stDatrNack last _) nack_ne_ack] at hbyte
  exact ⟨_, ⟨⟨4, hbyte⟩, rfl⟩, rfl, rfl, rfl, (h.holds_stored last).of_keeps ⟨rfl, rfl, rfl⟩⟩

/-- The bytes still to come are received, and the receive goes to STOP with success. -/
theorem State.ReceivingAfter.receives_left {s : State} {got left : List Byte} {last : Byte} {rest : List RegWord}
    (h : s.ReceivingAfter got left last rest) :
    ∃ t, Receives s t ∧ t.fsm = .stopSto ∧ t.result = 0x0000#16 ∧ t.reads = rest ∧
      t.HoldsBytes (got ++ left ++ [last]) := by
  induction left generalizing s got with
  | nil =>
    rw [List.append_nil]
    exact h.ends
  | cons b left ih =>
    obtain ⟨t, hst, ht⟩ := h.next
    obtain ⟨u, htu, huf, hures, huq, hheld⟩ := ih ht
    rw [List.append_assoc got, List.singleton_append] at hheld
    exact ⟨u, hst.trans htu, huf, hures, huq, hheld⟩

/-- From `S_START` of a receive to the acknowledgement of its address: the decode waits for the first byte. -/
theorem receives_until_acked {s : State} {front : List Byte} {last : Byte} {rest : List RegWord} (hr : s.rst = false)
    (hf : s.fsm = .start) (hm : s.mode = .receive) (hwf : s.rxBuf.wf = true) (hcursor : s.cursor = 0#16)
    (hlen : s.allocLen.toNat = front.length + 1) (hroom : s.allocLen.toNat < s.lenW.cells)
    (hq : s.reads = requestReads front last ++ rest) :
    ∃ t, Receives s t ∧ t.ReceivingAfter [] front last rest := by
  simp only [requestReads, List.append_assoc] at hq
  have hrun := stepN_succ (step_of_start hr hf) <|
    stepN_add (stepN_decode hr rfl (by decide) (by decide) hq) <|
    stepN_add (stepN_startRow_receive hr rfl (.inl rfl) hm) <|
    stepN_add (stepN_decode hr rfl (by decide) (by decide) rfl) <|
    stepN_succ (step_dispatch_slarAck hr rfl hm rfl) (stepN_ack hr rfl)
  exact ⟨_, ⟨⟨_, hrun⟩, rfl⟩, {
    released := hr
    decoding := rfl
    receiving := hm
    canonical := hwf
    holds := holdsBytes_nil hcursor
    length := by rw [List.length_nil, Nat.zero_add]; exact hlen
    room := hroom
    answers := rfl }⟩

/-- The state in which a `REQUEST` has left the port, its operands are latched and the buffer is replaced (R170, R181). -/
def State.acceptRequest (s : State) (a : Addr) (n : Len) (d : List Byte) (q : List HostCmd) : State :=
  { s.accept ⟨CmdWord.mk 2#3 a n, d⟩ q with
    allocLen := n, cursor := 0#16, mode := .receive, addrQ := a, lenQ := n, fsm := .start }

/-- The acceptance of a `REQUEST` whose length fits (R170, R222). -/
theorem step_accept_request {s : State} {a : Addr} {n : Len} {d : List Byte} {q : List HostCmd} (hr : s.rst = false)
    (hf : s.fsm = .idle) (hn : n.toNat < s.lenW.cells) (hc : s.cmds = ⟨CmdWord.mk 2#3 a n, d⟩ :: q) :
    step s = .next (s.acceptRequest a n d q) := by
  have hdec : decodeCmd s.lenW (CmdWord.mk 2#3 a n) = .request a n :=
    Except.ok.inj (decode_encode (i := .request a n) ((s.lenW.fits_iff n).mpr hn))
  rw [step_of_idle_cons hr hf hc, hdec]
  rfl

/-! ## The obligation -/

/-- Settles O60: the acceptance, the address and its acknowledgement, the bytes by induction, and the stop states; then the
buffer holds the bytes, and the commands read them from it. -/
theorem successfulRequestReturnsTheBytes : Obligations.SuccessfulRequestReturnsTheBytes := by
  intro s a front last d q rest hr hf hwf hlen hc hq
  have hn : (BitVec.ofNat 16 (front.length + 1)).toNat = front.length + 1 := by
    rw [BitVec.toNat_ofNat]
    exact Nat.mod_eq_of_lt (Nat.lt_of_lt_of_le hlen s.lenW.cells_le)
  have hroom : (BitVec.ofNat 16 (front.length + 1)).toNat < s.lenW.cells := by rwa [hn]
  obtain ⟨t, ht, hacked⟩ := receives_until_acked
    (s := s.acceptRequest a (BitVec.ofNat 16 (front.length + 1)) d q) hr rfl rfl hwf rfl hn hroom hq
  obtain ⟨u, hu, huf, hures, huq, hheld⟩ := hacked.receives_left
  rw [List.nil_append] at hheld
  obtain ⟨⟨k, hk⟩, hframe⟩ := ht.trans hu
  have hend := stepN_stop (s := u) (by rw [hframe]; exact hr) huf
  have hroom' : u.allocLen.toNat < u.lenW.cells := by rw [hframe]; exact hroom
  have hfit : (front ++ [last]).length = u.allocLen.toNat := by
    rw [hframe, List.length_append, List.length_singleton]
    exact hn.symm
  have hcursor : u.cursor.toNat = front.length + 1 := by
    rw [hheld.cursor_eq hfit.le, List.length_append, List.length_singleton]
  refine ⟨k + 3 + 1, _, stepN_succ (step_accept_request hr hf hroom hc) (stepN_add hk hend), rfl, hures, ?fault, huq,
    ?cmds, ?trace, ⟨_, exec_available _, hcursor⟩, fun i b hb => ?stored, fun i hi => ?sentinel⟩
  case trace => rw [hures, List.getLast?_append]; rfl
  case stored => exact ⟨_, State.HoldsBytes.exec_read (hheld.of_keeps ⟨rfl, rfl, rfl⟩) hfit.le hroom' hb, rfl⟩
  case sentinel => exact ⟨_, exec_read_of_le (hcursor.trans_le hi), rfl⟩
  all_goals rw [hframe]; rfl

end Sys2Proof.Machine
end

section
/-! SUPPORT. The proofs of the statements on the bus primitives (44_bus_primitives.md): what each select and phase does, and
that a step is the register operation its sequencer state selects and nothing more at the register boundary. -/

namespace Sys2Proof.Machine

/-! ## The primitives, by the one operation each is -/

/-- Each single control primitive is one write of its mask (R202, R203, R205, R206, R207, R212). -/
theorem exec_control_primitive (s : State) {i : Instr} {r : RegName} {v : Byte}
    (h : (i, r, v) ∈ [(Instr.pStartSet, RegName.conset, 0x20#8), (.pStartClr, .conclr, 0x20#8),
      (.pStopClr, .conclr, 0x10#8), (.pAckSet, .conset, 0x04#8), (.pAckClr, .conclr, 0x04#8),
      (.pSiClr, .conclr, 0x08#8)]) :
    (r = .conset ∨ r = .conclr) ∧ exec i s = .next (s.regWrite r v) := by
  simp only [List.mem_cons, Prod.mk.injEq, List.not_mem_nil, or_false] at h
  rcases h with ⟨rfl, rfl, rfl⟩ | ⟨rfl, rfl, rfl⟩ | ⟨rfl, rfl, rfl⟩ | ⟨rfl, rfl, rfl⟩ | ⟨rfl, rfl, rfl⟩ | ⟨rfl, rfl, rfl⟩
  case inl | inr.inr.inr.inl => exact ⟨.inl rfl, rfl⟩
  all_goals exact ⟨.inr rfl, rfl⟩

/-- A write of a control register gives the bits of its mask the register's value, and keeps every other bit (R70). -/
theorem getLsbD_ctlAfterWrite {ctl v : Byte} {r : RegName} {k : Nat} (hr : r = .conset ∨ r = .conclr) (hk : k < 8) :
    (ctlAfterWrite ctl r v).getLsbD k = if v.getLsbD k = true then decide (r = .conset) else ctl.getLsbD k := by
  rcases hr with rfl | rfl
  · by_cases hv : v[k] = true <;> simp [ctlAfterWrite, hv, hk]
  · by_cases hv : v[k] = true <;> simp [ctlAfterWrite, hv, hk]

/-- The address byte is twice the address, plus one in a receive (R101). -/
theorem slaByte_eq_ofNat (a : Addr) (m : Mode) :
    slaByte a m = BitVec.ofNat 8 (2 * a.toNat + if m = .receive then 1 else 0) := by
  revert a
  cases m <;> decide

/-- The first half of `P_DATA_WRITE` writes the byte on the `tx_byte` port (R208). -/
theorem exec_dataWrite_first (s : State) : exec (.pDataWrite .first) s = .next (s.regWrite .dat s.txByte) := rfl

/-- The port shows the byte the host placed at `tx_idx` (R63). -/
theorem txByte_of_read {s : State} {b : Byte} (h : s.txMem.read s.txIdx.toNat = some b) : s.txByte = b := by
  rw [State.txByte, h, Option.getD_some]

/-! ## A step at the register boundary -/

/-- Nothing happens at the register boundary from `s` to `t`: no operation is recorded or counted, no answer used up. -/
def KeepsBoundary (s t : State) : Prop :=
  t.trace.filter Event.isRegOp = s.trace.filter Event.isRegOp ∧ t.tick = s.tick ∧ t.reads = s.reads

theorem KeepsBoundary.of_event {s t : State} {e : Event} (htr : t.trace = s.trace ++ [e]) (he : e.isRegOp = false)
    (htick : t.tick = s.tick) (hreads : t.reads = s.reads) : KeepsBoundary s t :=
  ⟨by rw [htr, List.filter_append, List.filter_singleton, he, cond_false, List.append_nil], htick, hreads⟩

theorem KeepsBoundary.trans {s t u : State} (hst : KeepsBoundary s t) (htu : KeepsBoundary t u) : KeepsBoundary s u := by
  obtain ⟨htr, htick, hreads⟩ := hst
  obtain ⟨utr, utick, ureads⟩ := htu
  exact ⟨utr.trans htr, utick.trans htick, ureads.trans hreads⟩

/-- No command operates on a register at its acceptance (R128). -/
theorem runCommand_keepsBoundary {w : BitVec 32} {s t : State} (ht : runCommand w s = .next t) : KeepsBoundary s t := by
  obtain ⟨u, hu, hk⟩ := runCommand_cases w s
  rw [hu] at ht
  cases ht
  rcases hk with ⟨-, rfl⟩ | ⟨-, rfl⟩ | ⟨-, rfl⟩ | ⟨-, hfin⟩ | ⟨-, rfl⟩
  case inl => exact .of_event (e := .initSeq) rfl rfl rfl rfl
  case inr.inr.inr.inl =>
    rw [hfin]
    exact ⟨rfl, rfl, rfl⟩
  all_goals exact ⟨rfl, rfl, rfl⟩

/-- The store of a received byte operates on no register (R182). -/
theorem store_keepsBoundary {s u : State} {b : Byte} (hu : s.store b = .next u) : KeepsBoundary s u := by
  rcases store_cases hu with ⟨-, -, rfl⟩ | ⟨-, rfl⟩
  · exact ⟨rfl, rfl, rfl⟩
  · exact .of_event (e := .faultSet .rxOverrun) rfl rfl rfl rfl

theorem afterStore_keepsBoundary (s : State) : KeepsBoundary s s.afterStore := by
  rw [afterStore_eq]
  exact ⟨rfl, rfl, rfl⟩

/-- Beyond the primitive its sequencer state selects, a step does nothing at the register boundary (R200, R221). -/
theorem StepCase.selected_keepsBoundary {s t : State} (hst : StepCase s t) : KeepsBoundary (s.selected s.fsm) t := by
  cases hst with
  | stutter hf =>
    rw [hf]
    exact ⟨rfl, rfl, rfl⟩
  | accept c q hf _ hrun =>
    rw [hf]
    have hacc : KeepsBoundary s (s.accept c q) := .of_event (accept_trace s c q) rfl rfl rfl
    exact hacc.trans (runCommand_keepsBoundary hrun)
  | dispatch hf hrow =>
    rw [hf, runRow_frame hrow]
    exact .of_event (e := .dispatch (classOf s.statQ)) rfl rfl rfl rfl
  | rxdRead u hf hu =>
    rw [hf]
    exact (store_keepsBoundary hu).trans (afterStore_keepsBoundary u)
  | ret hf =>
    rw [hf]
    exact .of_event (respond_trace s) rfl rfl rfl
  | _ =>
    rw [‹s.fsm = _›]
    exact ⟨rfl, rfl, rfl⟩

/-- Where no operation is requested, the selected primitive is none (R201). -/
theorem selected_of_no_request {s : State} (h : s.regRequest = none) : s.selected s.fsm = s := by
  rw [State.regRequest] at h
  rw [State.selected, State.prim, h]

/-- The selected primitive is the operation requested at the port (R200, R215). -/
theorem selected_of_request {s : State} {op : RegOp} (h : s.regRequest = some op) :
    s.selected s.fsm = s.perform op := by
  rw [State.regRequest] at h
  rw [State.selected, State.prim, h]

/-- An operation leaves its event in the record (R75). -/
theorem perform_trace (s : State) (op : RegOp) : (s.perform op).trace = s.trace ++ [op.event s.regRdata] := by
  cases op <;> rfl

/-- An operation is counted once. -/
theorem perform_tick (s : State) (op : RegOp) : (s.perform op).tick = s.tick + 1 := by
  cases op <;> rfl

/-- The event of an operation is one of the register boundary. -/
theorem isRegOp_event (v : RegWord) (op : RegOp) : (op.event v).isRegOp = true := by
  cases op <;> rfl

/-! ## The obligations -/

/-- Settles O12: the step is the requested operation, if any, and nothing more at the boundary. -/
theorem stepPerformsTheMultiplexersOperation : Obligations.StepPerformsTheMultiplexersOperation := by
  intro s t hr ht
  obtain ⟨htr, htick, hreads⟩ := (step_cases hr ht).selected_keepsBoundary
  rw [htr, htick, hreads]
  cases hreq : s.regRequest with
  | none =>
    rw [selected_of_no_request hreq]
    exact ⟨(List.append_nil _).symm, rfl, rfl⟩
  | some op =>
    rw [selected_of_request hreq, perform_trace, perform_tick, List.filter_append, List.filter_singleton, isRegOp_event]
    cases op <;> exact ⟨rfl, rfl, rfl⟩

/-- Settles O56: the run through the stop states, to idle. -/
theorem stopThenFlagClearThenResponse : Obligations.StopThenFlagClearThenResponse :=
  fun _ hr hf => stepN_stop hr hf

/-- Settles O27: the primitive is the register write, whose effect on each control bit is the register's. -/
theorem controlPrimitivesWriteOneMask : Obligations.ControlPrimitivesWriteOneMask := by
  intro s i r v hirv
  obtain ⟨hreg, hexec⟩ := exec_control_primitive s hirv
  exact ⟨s.regWrite r v, hexec, regWrite_trace s r v, fun _ hk => getLsbD_ctlAfterWrite hreg hk, rfl⟩

/-- Settles O28: each half is one register write, the address byte by its numeric value, the data byte by the port. -/
theorem compoundPrimitivesWriteInOrder : Obligations.CompoundPrimitivesWriteInOrder := by
  intro s
  refine ⟨rfl, rfl, ?address, rfl, fun b hb => ?placed, ⟨s.txByte, exec_dataWrite_first s⟩, rfl⟩
  case address =>
    rw [← slaByte_eq_ofNat]
    rfl
  case placed =>
    rw [exec_dataWrite_first, txByte_of_read hb]
    rfl

/-- Settles O29: the read primitive is the register read, which gets the first answer queued. -/
theorem readPrimitivesReadOnce : Obligations.ReadPrimitivesReadOnce := by
  intro s v q hq i r hir
  rw [exec_read_primitive s hir, regRead_of_reads hq]
  rfl

/-- Settles O31: the multiplexer's rows of these selects are empty. -/
theorem emptySelectsDoNothing : Obligations.EmptySelectsDoNothing := by
  intro s i hi
  fin_cases hi <;> rfl

end Sys2Proof.Machine
end

section
/-! SUPPORT. The proofs of the statements on the sequencer (45_sequencer.md): what each state does, with its frame, and that
no step leaves the table of successors. -/

namespace Sys2Proof.Machine

/-! ## S_IDLE -/

/-- A transaction goes to `S_START`, every other command to `S_RETURN` (R222). -/
theorem runCommand_fsm {w : BitVec 32} {s t : State} (ht : runCommand w s = .next t) :
    t.fsm = if (CmdWord.op w).toNat = 1 ∨ (CmdWord.op w).toNat = 2 then .start else .ret := by
  obtain ⟨u, hu, hk⟩ := runCommand_cases w s
  rw [hu] at ht
  cases ht
  rcases hk with ⟨ho, rfl⟩ | ⟨ho, rfl⟩ | ⟨ho, rfl⟩ | ⟨ho, hfin⟩ | ⟨ho, rfl⟩
  case inr.inl => rw [if_pos (.inl ho)]
  case inr.inr.inl => rw [if_pos (.inr ho)]
  case inr.inr.inr.inl => rw [if_neg (by omega), hfin, finish_fsm]
  all_goals
    rw [if_neg (by omega)]
    rfl

/-- What no command writes at its acceptance: the width, the latched status, the cells, the control image and the inputs. -/
theorem runCommand_frame {w : BitVec 32} {s t : State} (ht : runCommand w s = .next t) :
    t = { s with
      fsm := t.fsm, mode := t.mode, addrQ := t.addrQ, lenQ := t.lenQ, txIdx := t.txIdx, allocLen := t.allocLen,
      cursor := t.cursor, result := t.result, fault := t.fault, initDone := t.initDone, trace := t.trace } := by
  obtain ⟨u, hu, hk⟩ := runCommand_cases w s
  rw [hu] at ht
  cases ht
  rcases hk with ⟨-, rfl⟩ | ⟨-, rfl⟩ | ⟨-, rfl⟩ | ⟨-, hfin⟩ | ⟨-, rfl⟩
  case inr.inr.inr.inl =>
    rw [hfin]
    rfl
  all_goals rfl

/-! ## S_DISPATCH -/

/-- Where every row that the codes select in the mode's table answers `o`, so does the dispatch of one of the codes. -/
theorem exec_sDispatch_of_rows {s : State} {codes : List Byte} {rows : List Instr} {o : Result} (hq : s.statQ ∈ codes)
    (hrows : ∀ q ∈ codes, maskStatus q = q ∧ q ≠ 0xF8#8 ∧ statusRow s.mode q ∈ rows)
    (ho : ∀ i ∈ rows, exec i (s.log (.dispatch (classOf s.statQ))) = o) : exec .sDispatch s = o := by
  obtain ⟨hmask, hn, hrow⟩ := hrows s.statQ hq
  exact (runRow_eq_exec (s.log (.dispatch (classOf s.statQ))) hmask hn).trans (ho _ hrow)

/-- The acknowledged address of a receive asserts ACK (R174). -/
theorem exec_slarAckRow (s : State) {i : Instr} (hi : i ∈ [Instr.rxSlarAck]) : exec i s = .next (s.goto .ackSet) := by
  rw [List.mem_singleton.mp hi]
  rfl

/-- The rows of the default arm: the other direction's statuses and the codes outside the thirteen (R160, R179, R236). -/
def defaultRows : List Instr :=
  [.txDefaultSlarAck, .txDefaultSlarNack, .txDefaultDatrAck, .txDefaultDatrNack,
    .rxDefaultSlawAck, .rxDefaultSlawNack, .rxDefaultDatwAck, .rxDefaultDatwNack,
    .unclassified60, .unclassified68, .unclassified70, .unclassified78, .unclassified80, .unclassified88,
    .unclassified90, .unclassified98, .unclassifiedA0, .unclassifiedA8, .unclassifiedB0, .unclassifiedB8,
    .unclassifiedC0, .unclassifiedC8, .unclassifiedD0, .unclassifiedD8, .unclassifiedE0, .unclassifiedE8,
    .unclassifiedF0]

/-- The default rows have one meaning (R236). -/
theorem exec_defaultRow (s : State) {i : Instr} (hi : i ∈ defaultRows) : exec i s = .next s.defaultArm := by
  unfold defaultRows at hi
  fin_cases hi <;> rfl

/-- The default arm writes the fault register, the response and the sequencer state (R236). -/
theorem defaultArm_eq (s : State) :
    s.defaultArm = { s with fault := s.fault ||| 0b010#3, result := s.statQ.setWidth 16, fsm := .ret } := rfl

/-- A status outside the thirteen takes the default arm, masked or not (R226, log 10). -/
theorem exec_sDispatch_unclassified {s : State} (hk : classOf s.statQ = .unclassified) :
    exec .sDispatch s = .next (s.log (.dispatch (classOf s.statQ))).defaultArm := by
  change runRow (s.log _) = _
  rw [← runUnclassified_eq, runRow]
  cases hm : (s.log (.dispatch (classOf s.statQ))).mode <;> simp only [log_statQ, hk]

/-- A status without a row in the mode's table takes the default arm (R226, R236). -/
theorem exec_sDispatch_default {s : State} (hn : s.statQ ≠ 0xF8#8)
    (h : (s.mode = .transmit ∧ s.statQ ∈ [0x40#8, 0x48#8, 0x50#8, 0x58#8]) ∨
      (s.mode = .receive ∧ s.statQ ∈ [0x18#8, 0x20#8, 0x28#8, 0x30#8]) ∨
      s.statQ ∉ [0x00#8, 0x08#8, 0x10#8, 0x18#8, 0x20#8, 0x28#8, 0x30#8, 0x38#8, 0x40#8, 0x48#8, 0x50#8, 0x58#8]) :
    exec .sDispatch s = .next (s.log (.dispatch (classOf s.statQ))).defaultArm := by
  rcases h with ⟨hm, hq⟩ | ⟨hm, hq⟩ | hq
  · exact exec_sDispatch_of_rows hq (by rw [hm]; decide) fun _ => exec_defaultRow _
  · exact exec_sDispatch_of_rows hq (by rw [hm]; decide) fun _ => exec_defaultRow _
  · have unlisted : ∀ b : Byte, b ≠ 0xF8#8 →
        b ∉ [0x00#8, 0x08#8, 0x10#8, 0x18#8, 0x20#8, 0x28#8, 0x30#8, 0x38#8, 0x40#8, 0x48#8, 0x50#8, 0x58#8] →
        classOf b = .unclassified := by decide
    exact exec_sDispatch_unclassified (unlisted _ hn hq)

/-- What the dispatch step leaves (R226): it writes the sequencer state, the response, the fault bits and one event, which is
none of the register boundary. -/
theorem exec_sDispatch_frame {s t : State} (ht : exec .sDispatch s = .next t) :
    t.trace.filter Event.isRegOp = s.trace.filter Event.isRegOp ∧
    t = { s with fsm := t.fsm, result := t.result, fault := t.fault, trace := t.trace } := by
  have hframe := runRow_frame ht
  have htr : t.trace = s.trace ++ [.dispatch (classOf s.statQ)] := by
    rw [hframe]
    rfl
  obtain ⟨hops, -, -⟩ : KeepsBoundary s t := .of_event htr rfl (by rw [hframe]; rfl) (by rw [hframe]; rfl)
  refine ⟨hops, ?_⟩
  rw [hframe]
  rfl

/-! ## The states that write -/

/-- Each state that writes one control mask is that write and the move to its one successor (R223, R229, R231, R233 to R235,
R237, R238). -/
theorem exec_singleWrite (s : State) {i : Instr} {r : RegName} {v : Byte} {f : SeqState}
    (h : (i, r, v, f) ∈ [(Instr.sStart, RegName.conset, 0x20#8, SeqState.decStat), (.sStaClr, .conclr, 0x20#8, .siClr),
      (.sTxdAa, .conset, 0x04#8, .siClr), (.sAckSet, .conset, 0x04#8, .siClr), (.sAckClr, .conclr, 0x04#8, .siClr),
      (.sSiClr, .conclr, 0x08#8, .decStat), (.sStopSto, .conset, 0x10#8, .stopSi), (.sStopSi, .conclr, 0x08#8, .ret)]) :
    (r = .conset ∨ r = .conclr) ∧ exec i s = .next ((s.regWrite r v).goto f) := by
  simp only [List.mem_cons, Prod.mk.injEq, List.not_mem_nil, or_false] at h
  rcases h with ⟨rfl, rfl, rfl, rfl⟩ | ⟨rfl, rfl, rfl, rfl⟩ | ⟨rfl, rfl, rfl, rfl⟩ | ⟨rfl, rfl, rfl, rfl⟩ |
    ⟨rfl, rfl, rfl, rfl⟩ | ⟨rfl, rfl, rfl, rfl⟩ | ⟨rfl, rfl, rfl, rfl⟩ | ⟨rfl, rfl, rfl, rfl⟩
  case inl | inr.inr.inl | inr.inr.inr.inl | inr.inr.inr.inr.inr.inr.inl => exact ⟨.inl rfl, rfl⟩
  all_goals exact ⟨.inr rfl, rfl⟩

/-- A write of a control register asserts the bits of its mask or clears them (R70). -/
theorem ctlAfterWrite_of_control {ctl v : Byte} {r : RegName} (hr : r = .conset ∨ r = .conclr) :
    ctlAfterWrite ctl r v = if r = .conset then ctl ||| v else ctl &&& ~~~v := by
  rcases hr with rfl | rfl <;> rfl

/-- The address byte as a number (R101). -/
theorem toNat_slaByte (a : Addr) (m : Mode) :
    (slaByte a m).toNat = 2 * a.toNat + if m = .receive then 1 else 0 := by
  rw [slaByte_eq_ofNat, BitVec.toNat_ofNat, Nat.mod_eq_of_lt]
  split <;> omega

/-- ACK-enable follows the address byte; only a transmit goes on to the clear of START (R228). -/
theorem exec_sAddrAa (s : State) :
    exec .sAddrAa s = .next ((s.regWrite .conset 0x04#8).goto (if s.mode = .transmit then .staClr else .siClr)) := by
  rw [exec, execSAddrAa]
  cases s.mode <;> rfl

/-- The byte on the `tx_byte` port is written and the index incremented (R230). -/
theorem exec_sTxdDat (s : State) : exec .sTxdDat s = .next { s with
    fsm := .txdAa, txIdx := s.txIdx + 1#16, tick := s.tick + 1, trace := s.trace ++ [.regWrite .dat s.txByte] } := rfl

/-! ## The decoder's second phase -/

/-- One poll of the flag, which bit 3 of the answer is (R142, R225). -/
theorem exec_sDecSi (s : State) :
    exec .sDecSi s = .next ((s.regRead .conset).goto (if s.regRdata.getLsbD 3 = true then .dispatch else .decSi)) := rfl

/-! ## S_RXD_READ -/

/-- With room in the buffer the store writes the cell at the cursor and no other, and moves the cursor past it (R182). -/
theorem store_with_room {s u : State} {b : Byte} (hwf : s.rxBuf.wf = true) (hu : s.store b = .next u)
    (hlt : s.cursor < s.allocLen) :
    u.cursor.toNat = s.cursor.toNat + 1 ∧ u.fault = s.fault ∧ u.trace = s.trace ∧
    ∀ i, u.rxBuf.read i = if i = s.cursor.toNat then some b else s.rxBuf.read i := by
  rcases store_cases hu with ⟨-, -, rfl⟩ | ⟨hge, -⟩
  · exact ⟨by bv_omega, rfl, rfl, fun i => Memory.read_write s.cursor.toNat i b hwf⟩
  · exact absurd hlt hge

/-- With no room in the buffer the byte is dropped, RX_OVERRUN set and its event recorded (R182, log 8). -/
theorem store_without_room {s u : State} {b : Byte} (hu : s.store b = .next u) (hge : ¬ s.cursor < s.allocLen) :
    u = (s.setFault .rxOverrun).log (.faultSet .rxOverrun) := by
  rcases store_cases hu with ⟨hlt, -, -⟩ | ⟨-, hdrop⟩
  · exact absurd hlt hge
  · exact hdrop

/-- After an acknowledged byte the ACK choice is on the cursor as it stands (R176). -/
theorem afterStore_of_datrAck {s : State} (hq : s.statQ = 0x50#8) :
    s.afterStore = s.goto (if s.cursor < s.allocLen then .ackSet else .ackClr) := if_pos hq

/-! ## The table of successors -/

/-- Every dispatch row leads to a successor of `S_DISPATCH` (R226). -/
theorem runRow_fsm_mem {s t : State} (ht : runRow s = .next t) : t.fsm ∈ successorsOf .dispatch := by
  obtain ⟨u, hu, hk⟩ := runRow_cases s
  rw [hu] at ht
  cases ht
  rcases hk with ⟨-, rfl⟩ | ⟨-, -, rfl⟩ | ⟨-, rfl⟩ | ⟨-, rfl⟩ | ⟨-, rfl⟩ | ⟨-, -, rfl⟩ | ⟨-, -, rfl⟩ | ⟨-, rfl⟩
  case inr.inl =>
    by_cases hlt : s.txIdx < s.lenQ
    · rw [bytesRemainOrStop_of_lt hlt]
      simp [successorsOf]
    · rw [bytesRemainOrStop_of_le (BitVec.not_lt.mp hlt)]
      simp [successorsOf]
  all_goals simp [successorsOf]

/-- A step leads to a successor of its sequencer state, or there is no command and it is the stutter of log 7 (R221). -/
theorem StepCase.successor {s t : State} (hst : StepCase s t) :
    t.fsm ∈ successorsOf s.fsm ∨ (s.fsm = .idle ∧ s.cmds = [] ∧ t = s) := by
  cases hst with
  | stutter hf hc => exact .inr ⟨hf, hc, rfl⟩
  | accept c q hf hc hrun =>
    left
    rw [hf, runCommand_fsm hrun]
    split <;> simp [successorsOf]
  | dispatch hf hrow =>
    left
    rw [hf]
    exact runRow_fsm_mem hrow
  | rxdRead u hf hu =>
    left
    rw [hf]
    rcases afterStore_fsm u with h | h | h <;> simp [successorsOf, h]
  | _ =>
    left
    rw [‹s.fsm = _›]
    simp [successorsOf]

/-! ## The obligations -/

/-- Settles O13, by the cases of a step. -/
theorem successorsAreTheTables : Obligations.SuccessorsAreTheTables :=
  fun _ _ hr ht => (step_cases hr ht).successor

/-- Settles O39: the word leaves the port, and its command keeps what the acceptance left. -/
theorem idleAcceptsEveryWord : Obligations.IdleAcceptsEveryWord := by
  refine ⟨fun s hc => exec_sIdle_nil hc, fun s c q hc => ?word⟩
  case word =>
    obtain ⟨t, ht, -⟩ := runCommand_cases c.word (s.accept c q)
    have hexec : exec .sIdle s = .next t := by rw [exec_sIdle_cons hc, ← ht, runCommand_eq_exec, accept_lenW]
    have hacc : KeepsBoundary s (s.accept c q) := .of_event (accept_trace s c q) rfl rfl rfl
    obtain ⟨htr, htick, hreads⟩ := hacc.trans (runCommand_keepsBoundary ht)
    refine ⟨t, hexec, ?_, ?_, runCommand_fsm ht, htr, ?_, ?_, ?_, ?_, ?_, hreads, htick⟩
    all_goals rw [runCommand_frame ht]; rfl

/-- Settles O40, clause by clause: the codes' rows in the mode's table have one meaning, which is what the step answers. -/
theorem dispatchFollowsTheTables : Obligations.DispatchFollowsTheTables := by
  intro s hn
  obtain ⟨t, ht⟩ := execSDispatch_next s
  have answers {u : State} (hu : exec .sDispatch s = .next u) : t = u := Host.Outcome.next.inj (ht.symm.trans hu)
  refine ⟨t, ht, fun hq => ?start, fun hq => ?arbLost, fun hq => ?busError, fun hm hq hlt => ?more,
    fun hm hq hge => ?last, fun hm hq => ?nacked, fun hm hq => ?slarAck, fun hm hq => ?slarNack, fun hm hq => ?data,
    fun h => ?default, exec_sDispatch_frame ht⟩
  case start =>
    rw [answers (exec_sDispatch_of_rows hq (by cases s.mode <;> decide) fun _ => exec_startRow _)]
    exact ⟨rfl, rfl, rfl⟩
  case arbLost =>
    rw [answers (exec_sDispatch_of_rows (List.mem_singleton.mpr hq) (by cases s.mode <;> decide)
      fun _ => exec_arbLostRow _), fail_result, log_statQ, hq]
    exact ⟨rfl, rfl, rfl⟩
  case busError =>
    rw [answers (exec_sDispatch_of_rows (List.mem_singleton.mpr hq) (by cases s.mode <;> decide)
      fun _ => exec_busErrorRow _), fail_result, log_statQ, hq]
    exact ⟨rfl, rfl, rfl⟩
  case more =>
    rw [answers (exec_sDispatch_of_rows hq (by rw [hm]; decide) fun _ => exec_ackedRow _),
      bytesRemainOrStop_of_lt (s := s.log _) hlt]
    exact ⟨rfl, rfl, rfl⟩
  case last =>
    rw [answers (exec_sDispatch_of_rows hq (by rw [hm]; decide) fun _ => exec_ackedRow _),
      bytesRemainOrStop_of_le (s := s.log _) (BitVec.not_lt.mp hge)]
    exact ⟨rfl, rfl, rfl⟩
  case nacked =>
    rw [answers (exec_sDispatch_of_rows hq (by rw [hm]; decide) fun _ => exec_nackedRow _)]
    exact ⟨rfl, rfl, rfl⟩
  case slarAck =>
    rw [answers (exec_sDispatch_of_rows (List.mem_singleton.mpr hq) (by rw [hm]; decide) fun _ => exec_slarAckRow _)]
    exact ⟨rfl, rfl, rfl⟩
  case slarNack =>
    rw [answers (exec_sDispatch_of_rows (List.mem_singleton.mpr hq) (by rw [hm]; decide) fun _ => exec_nackedRow _)]
    exact ⟨rfl, rfl, rfl⟩
  case data =>
    rw [answers (exec_sDispatch_of_rows hq (by rw [hm]; decide) fun _ => exec_dataRow _)]
    exact ⟨rfl, rfl, rfl⟩
  case default =>
    rw [answers (exec_sDispatch_default hn h)]
    exact ⟨rfl, rfl, rfl⟩

/-- Settles O46: the store by whether the buffer has room, the choice after it by the status, and the frames of both. -/
theorem receiveStateStoresAndChooses : Obligations.ReceiveStateStoresAndChooses := by
  intro s hwf hcell
  obtain ⟨u, hu⟩ := store_next (s.regRead .dat) (lowByte s.regRdata) hcell
  refine ⟨u.afterStore, execSRxdRead_of_store_next hu, fun hlt => ?stored, fun hge => ?dropped, fun hq => ?acked,
    fun hq => ?last, ?frame⟩
  case stored =>
    have hroom := store_with_room (s := s.regRead .dat) hwf hu hlt
    rw [afterStore_eq]
    exact hroom
  case dropped =>
    rw [afterStore_eq, store_without_room hu hge]
    exact ⟨rfl, rfl, List.append_assoc .., rfl⟩
  case acked =>
    have hstat : u.statQ = 0x50#8 := by rw [store_frame hu]; exact hq
    rw [afterStore_of_datrAck hstat, store_frame hu]
    exact ⟨rfl, rfl⟩
  case last =>
    have hstat : u.statQ ≠ Config.stDatrAck := by rw [store_frame hu]; exact hq
    rw [afterStore_of_nack hstat]
    exact ⟨rfl, rfl⟩
  case frame =>
    rw [afterStore_eq, store_frame hu]
    rfl

/-- Settles O10: a status with reserved bits zero is its own masked code, whose row is run. -/
theorem dispatchStepRunsTheDecodedRow : Obligations.DispatchStepRunsTheDecodedRow := by
  intro s i hr hf h0 h1 h2 hn hi
  have hmask : maskStatus s.statQ = s.statQ := maskStatus_of_low s.statQ h0 h1 h2
  have hrow : statusRow s.mode (maskStatus s.statQ) = i := Except.ok.inj hi
  rw [step_of_dispatch_row hr hf rfl hmask hn, ← hrow, hmask]
  rfl

/-- Settles O37: the default rows' one meaning, written out as a record. -/
theorem defaultRowsFailLoudly : Obligations.DefaultRowsFailLoudly := by
  intro s i hi
  rw [exec_defaultRow s hi, defaultArm_eq]

/-- Settles O41: the write is one of a control register. -/
theorem singleWriteStatesWriteAndGoOn : Obligations.SingleWriteStatesWriteAndGoOn := by
  intro s i r v f hi
  obtain ⟨hr, hexec⟩ := exec_singleWrite s hi
  rw [hexec, ← ctlAfterWrite_of_control hr]
  rfl

/-- Settles O42: the address byte by its numeric value, the branch by the mode. -/
theorem addressStatesLoadTheByte : Obligations.AddressStatesLoadTheByte :=
  fun s => ⟨⟨slaByte s.addrQ s.mode, toNat_slaByte s.addrQ s.mode, rfl⟩, exec_sAddrAa s⟩

/-- Settles O43: the port shows the byte the host placed, and some byte where it placed none. -/
theorem transmitDataStateSendsTheIndexedByte : Obligations.TransmitDataStateSendsTheIndexedByte := by
  refine ⟨fun s b hb => ?_, fun s => ⟨s.txByte, exec_sTxdDat s⟩⟩
  rw [exec_sTxdDat, txByte_of_read hb]

/-- Settles O44, by the two branches of the decoder's first phase. -/
theorem decoderPhaseOneLatchesOrPolls : Obligations.DecoderPhaseOneLatchesOrPolls := by
  rintro s v rfl
  refine ⟨fun hpoll => ?_, fun hlatch => ?_⟩
  · exact (execSDecStat_eq s).trans (if_pos hpoll)
  · exact (execSDecStat_eq s).trans (if_neg hlatch)

/-- Settles O45: the poll's answer chooses by its bit 3. -/
theorem decoderPhaseTwoPollsTheFlag : Obligations.DecoderPhaseTwoPollsTheFlag := by
  rintro s c rfl
  exact exec_sDecSi s

/-- Settles O47: the response state's step, and the ports by their definitions. -/
theorem returnAnswersTheResult : Obligations.ReturnAnswersTheResult :=
  fun _ => ⟨rfl, decide_eq_true_iff, fun hf => if_pos hf, decide_eq_true_iff, decide_eq_true_iff⟩

end Sys2Proof.Machine
end

section
/-! SUPPORT. The proof of the statement on arbitration lost (60_exceptions.md R262): the dispatch of `0x38`, and the run from
it to idle, which has no register operation on its way. -/

namespace Sys2Proof.Machine

/-- Arbitration lost is failed with its code to the response state, in either mode (R157, R173). -/
theorem step_dispatch_arbLost {s : State} (hr : s.rst = false) (hf : s.fsm = .dispatch) (hq : s.statQ = 0x38#8) :
    step s = .next ((s.log (.dispatch .arbLost)).fail .ret) := by
  have hrow : statusRow s.mode 0x38#8 ∈ [Instr.txArbLost, .rxArbLost] := by cases s.mode <;> decide
  exact (step_of_dispatch_row hr hf hq (by decide) (by decide)).trans (exec_arbLostRow _ hrow)

/-- Settles O57: the dispatch of the lost arbitration goes straight to the response state, whose step answers its code. -/
theorem arbitrationLossAbortsAtOnce : Obligations.ArbitrationLossAbortsAtOnce := by
  intro s hr hf hq
  refine stepN_succ (step_dispatch_arbLost hr hf hq) <| stepN_succ (step_of_ret hr rfl) ?_
  simp [stepN, State.respond, State.fail, State.finish, State.goto, State.log, respOfByte, hq]

end Sys2Proof.Machine
end

section
/-! SUPPORT. The proofs of the statements on reset and hazards (70_reset_and_hazards.md): the step with the reset input
asserted, and the transaction that starts on the stale status and flag of an arbitration loss. -/

namespace Sys2Proof.Machine

/-! ## The reset input -/

/-- Settles O2: with the reset input asserted a step applies the reset, which writes the registers and the pin alone. -/
theorem resetInputOverridesEveryState : Obligations.ResetInputOverridesEveryState :=
  fun _ hr => ⟨_, step_of_reset hr, rfl, rfl, rfl, rfl, rfl, rfl, rfl, rfl, rfl, rfl, rfl, rfl, rfl, rfl, rfl, rfl, rfl,
    rfl, rfl⟩

/-! ## The stale status

The command is accepted whatever its length, so the acceptance is stated with the length as decoded; from `S_START` on the
two transactions run alike. -/

/-- The acceptance of a `TRANSMIT` of any length latches the decoded length (R92, R150). -/
theorem step_accept_transmit_decoded {s : State} {a : Addr} {n : Len} {d : List Byte} {q : List HostCmd}
    (hr : s.rst = false) (hf : s.fsm = .idle) (hc : s.cmds = ⟨CmdWord.mk 1#3 a n, d⟩ :: q) :
    step s = exec (.transmit a (CmdWord.n s.lenW (CmdWord.mk 1#3 a n))) (s.accept ⟨CmdWord.mk 1#3 a n, d⟩ q) := by
  rw [step_of_idle_cons hr hf hc]
  simp [decodeCmd]

/-- The acceptance of a `REQUEST` of any length latches the decoded length (R92, R170). -/
theorem step_accept_request_decoded {s : State} {a : Addr} {n : Len} {d : List Byte} {q : List HostCmd}
    (hr : s.rst = false) (hf : s.fsm = .idle) (hc : s.cmds = ⟨CmdWord.mk 2#3 a n, d⟩ :: q) :
    step s = exec (.request a (CmdWord.n s.lenW (CmdWord.mk 2#3 a n))) (s.accept ⟨CmdWord.mk 2#3 a n, d⟩ q) := by
  rw [step_of_idle_cons hr hf hc]
  simp [decodeCmd]

/-- From `S_START` with the stale status and flag: START is asserted, the decode finds the arbitration loss at once, and its
code is the response (R262, R302). -/
theorem stepN_start_stale {s : State} {rest : List RegWord} (hr : s.rst = false) (hf : s.fsm = .start)
    (hq : s.reads = decodeReads 0x38#8 ++ rest) :
    stepN 5 s = .next { s with
      fsm := .idle, statQ := 0x38#8, result := 0x0038#16, ctl := s.ctl ||| 0x20#8, reads := rest, tick := s.tick + 3,
      trace := s.trace ++ [.regWrite .conset 0x20#8, .regRead .stat 0x38#32, .regRead .conset 0x08#32,
        .dispatch .arbLost, .rsp 0x0038#16] } := by
  have hdecode := stepN_decode (s := (s.regWrite .conset 0x20#8).goto .decStat) hr rfl (by decide) (by decide) hq
  refine stepN_succ (step_of_start hr hf) <| stepN_add (n := 2) hdecode <|
    stepN_succ (step_dispatch_arbLost hr rfl rfl) <| stepN_succ (step_of_ret hr rfl) ?_
  simp [stepN, State.respond, State.fail, State.finish, State.goto, State.log, State.regWrite, ctlAfterWrite, respOfByte]

/-- Settles O58: either acceptance leads to `S_START`, and the run from there does the rest; of the events on the way the
command, the dispatch and the response are no register operations. -/
theorem staleStatusEndsTheNextCommand : Obligations.StaleStatusEndsTheNextCommand := by
  intro s o a n d q rest hr hf ho hc hq
  rcases ho with rfl | rfl
  · refine ⟨_, stepN_succ (step_accept_transmit_decoded hr hf hc) (stepN_start_stale hr rfl hq), rfl, rfl, rfl, rfl, rfl,
      fun _ => ⟨rfl, rfl⟩, nofun, ?_⟩
    simp [State.accept, List.filter_cons, Event.isRegOp]
  · refine ⟨_, stepN_succ (step_accept_request_decoded hr hf hc) (stepN_start_stale hr rfl hq), rfl, rfl, rfl, rfl, rfl,
      nofun, fun _ => ⟨rfl, rfl⟩, ?_⟩
    simp [State.accept, List.filter_cons, Event.isRegOp]

end Sys2Proof.Machine
end
